-- ==== Sys2Proof/Word.lean ====
section
/-! DEFINITION. Word.lean: the data sizes of the spec and the containers the model uses (20_memory.md R82). -/

namespace Sys2Proof

/-- A byte: 8 bits (R82). -/
abbrev Byte := BitVec 8

/-- A word: 16 bits (00_scope.md R11 (f), R82). -/
abbrev Word := BitVec 16

/-- A doubleword: 32 bits (R11 (f), R82); an x86 general register (93 G4, log entry 2). -/
abbrev Dword := BitVec 32

/-- A quadword: 64 bits (R11 (f), R82); an MSR (93 G2, log entry 3). -/
abbrev Quad := BitVec 64

/-- The container of an address before it is narrowed to the open width `PA_WIDTH` (92 D6, log entry 5). -/
abbrev Addr := BitVec 64

/-- Contents the spec names and does not describe (10_state.md R31: "opaque"): a code number that only the
bodiless constants of Config read or make. Two equal codes are equal contents; nothing else is known of them. -/
abbrev Opaque := Nat

end Sys2Proof
end

