-- ==== Sys2Proof/Syntax.lean ====
section
/-! DEFINITION. Syntax.lean: the four instructions the spec gives a meaning to (42_instructions.md) and the form of a
row of the opcode table (30_encoding.md R113). -/

namespace Sys2Proof

/-- One constructor per row of spec/opcode_table.json. None of the four has an operand field, a register field or an
immediate in its encoding: all operands are implicit registers (R113). -/
inductive Instr where
  /-- HLT (R210). -/
  | hlt
  /-- CPUID (R214). -/
  | cpuid
  /-- RDMSR (R217). -/
  | rdmsr
  /-- WRMSR (R218). -/
  | wrmsr
deriving DecidableEq, Repr, Inhabited

/-- The two instruction formats of R113. -/
inductive Format where
  /-- `x86.op1`: byte 0 is the opcode. -/
  | op1
  /-- `x86.0F_op2`: byte 0 is the escape `0Fh`, byte 1 the opcode. -/
  | op2
deriving DecidableEq, Repr

/-- A row of the encoding table of R113: the bytes in address order, and match and mask as little-endian integers of
the instruction's length. -/
structure OpcodeRow where
  format : Format
  bytes  : List Byte
  pat    : Nat
  mask   : Nat
deriving DecidableEq, Repr

/-- The mnemonic's row in R113. -/
def Instr.row : Instr → OpcodeRow
  | .hlt   => ⟨.op1, [0xF4#8], 0xF4, 0xFF⟩
  | .wrmsr => ⟨.op2, [0x0F#8, 0x30#8], 0x300F, 0xFFFF⟩
  | .rdmsr => ⟨.op2, [0x0F#8, 0x32#8], 0x320F, 0xFFFF⟩
  | .cpuid => ⟨.op2, [0x0F#8, 0xA2#8], 0xA20F, 0xFFFF⟩

/-- All four instructions, in the opcode table's order. -/
def Instr.all : List Instr := [.hlt, .cpuid, .rdmsr, .wrmsr]

end Sys2Proof
end

