-- ==== Sys2Proof/Machine/Types.lean ====
section
/-! DEFINITION. Machine/Types.lean: the value sets of the state record (10_state.md R31 to R60), the x86 component the
spec names without describing, and the input events (10_state.md R33) the environment and the chance steps of the
processor are made of. Plain data only. -/

namespace Sys2Proof.Machine

/-! ### Values of the state record (R31) -/

/-- `S.supply` (R36). -/
inductive Supply where
  /-- VCC_CORE is not applied. -/
  | off
  /-- VCC_CORE applied, PWROK deasserted: clocked by the ring oscillator. -/
  | ringOsc
  /-- PWROK asserted: clocked by the PLL from SYSCLK. -/
  | pll
deriving DecidableEq, Repr, Inhabited

/-- `S.rst` (R37). -/
inductive ResetPhase where
  | inReset
  | sip
  | run
deriving DecidableEq, Repr, Inhabited

/-- `S.pm` (R38). -/
inductive Power where
  | working
  | halt
  | stopGrant
  | probe
deriving DecidableEq, Repr, Inhabited

/-- `S.probe_ret` (R39): the two states a probe can interrupt. -/
inductive Resting where
  | halt
  | stopGrant
deriving DecidableEq, Repr, Inhabited

/-- The power state a resting state is. -/
def Resting.toPower : Resting → Power
  | .halt      => .halt
  | .stopGrant => .stopGrant

/-- `S.conn` (R41; 41_connect_protocol.md R184). -/
inductive Conn where
  | connected
  | disconnectPending
  | disconnected
  | connectPending1
  | connectPending2
deriving DecidableEq, Repr, Inhabited

/-- The three special cycles of the system bus (00_scope.md R13). -/
inductive Cycle where
  | halt
  | stopGrant
  | connect
deriving DecidableEq, Repr

/-- An output event appended to `S.out` (R34). -/
inductive OutEvent where
  | cycle (k : Cycle)
  | intAck (v : BitVec 8)
  | procrdy (asserted : Bool)
  | probeResponse (p : Opaque)
deriving DecidableEq, Repr

/-- The kinds of event `S.latched` can hold (R44; 60_exceptions.md R400). -/
inductive Kind where
  | init
  | smi
  | nmi
  | apic
  | intr
deriving DecidableEq, Repr, Inhabited

/-- `S.latched` (R44): a set of kinds, one entry a kind (92 D13), and the message of a latched APIC event, which
delivery needs (60_exceptions.md R408, log entry 21). -/
structure Latched where
  init    : Bool
  smi     : Bool
  nmi     : Bool
  apic    : Bool
  intr    : Bool
  apicMsg : Opaque
deriving DecidableEq, Repr, Inhabited

/-- The empty set of latched events. -/
def Latched.empty : Latched := ⟨false, false, false, false, false, 0⟩

/-- What arrived while a probe was being serviced, to take effect when it has been (40_power_states.md R153, 92 D17; log entry
24). -/
inductive Deferred where
  | event (k : Kind) (m : Opaque)
  /-- An edge of STPCLK#. -/
  | stpclk (asserted : Bool)
deriving DecidableEq, Repr

/-- `S.sip` (R47): the one field the spec names, and the FID code the chipset chose the packet for
(70_reset_and_hazards.md R465: "cfg matches FID[3:0]"). -/
structure SipConfig where
  sysPushPull : Bool
  forFid      : BitVec 4
deriving DecidableEq, Repr, Inhabited

/-- The three products of the data sheet (00_scope.md R3; 92 D21). -/
inductive Part where
  | xp2500
  | xp2800
  | xp3000
deriving DecidableEq, Repr, Inhabited

/-! ### The x86 component `S.x86` (R50 to R56) -/

/-- The integer registers (R50). Number, names and width are the family's (93 G4, log entry 2). -/
structure Gpr where
  eax : Dword
  ecx : Dword
  edx : Dword
  ebx : Dword
  esp : Dword
  ebp : Dword
  esi : Dword
  edi : Dword
deriving DecidableEq, Repr, Inhabited

/-- The modes the spec names (R54; 60_exceptions.md R420). R420 also names a real-mode legacy and gives it no state; DESIGN
CHOICE (log entry 68): it is no value of its own here but part of `normal`, told apart by `X86_ISA`'s own contents. -/
inductive Mode where
  | normal
  | systemManagement
deriving DecidableEq, Repr, Inhabited

/-- `S.x86`: everything `X86_ISA` owns (R31), as far as the spec names it, and codes for what it only names. -/
structure X86 where
  /-- The integer registers (R50). -/
  gpr : Gpr
  /-- The instruction pointer (R51): the address of the next instruction, physical unless `X86_ISA` translates (log
  entries 5 and 72). -/
  fetch : Addr
  /-- `X86_ISA`'s report whether it translates instruction addresses (20_memory.md R96, log entry 72). -/
  translating : Bool
  /-- CR0, of which the spec names the bit NE (R48). -/
  cr0 : Dword
  /-- Processor mode (R54). -/
  mode : Mode
  /-- `X86_ISA`'s report whether HLT, RDMSR and WRMSR are allowed in the current mode (60_exceptions.md R420, 93 G7). -/
  privileged : Bool
  /-- `X86_ISA`'s report whether INTR is currently masked (92 D1, D4). -/
  intrMasked : Bool
  /-- `X86_ISA.fpu_unmasked_exception_pending` (60_exceptions.md R412; 92 D1). -/
  numericPending : Bool
  /-- The floating-point registers (R53). -/
  fp : Opaque
  /-- The SIMD state (R53). -/
  simd : Opaque
  /-- Flags, status and control words (R52). -/
  flags : Opaque
  /-- The local APIC (R55). -/
  apic : Opaque
  /-- Every model-specific register other than CLK_Ctl (42_instructions.md R217, R218: "X86_ISA decides"). -/
  otherMsrs : Opaque
  /-- Everything else `X86_ISA` owns: segment and further control registers, A20M# and SMM bookkeeping. -/
  rest : Opaque
deriving DecidableEq, Repr, Inhabited

/-- Physical memory (20_memory.md R89): address and byte pairs in canonical form (Machine/Memory.lean). -/
abbrev Memory := List Host.Cell

/-- A cache or a TLB: which lines or pages it holds, by number, and the contents the spec does not describe. -/
structure CacheArray where
  held     : List Nat
  contents : Opaque
deriving DecidableEq, Repr, Inhabited

/-- `S.cache` (R57 to R59; 20_memory.md R94; 00_scope.md R9). -/
structure Caches where
  /-- The two parts of the split L1 cache (R94). -/
  l1Instr : CacheArray
  l1Data  : CacheArray
  /-- The exclusive L2 cache (R57, R94). -/
  l2 : CacheArray
  /-- The first-level TLBs, for data and for instructions (R58). -/
  dtlb1 : CacheArray
  itlb1 : CacheArray
  /-- The second-level TLBs, of exclusive architecture (R58). -/
  dtlb2 : CacheArray
  itlb2 : CacheArray
  /-- The hardware data prefetcher (R59). -/
  prefetch : Opaque
  /-- Instruction bytes a fetch finds before memory: what a store need not have reached yet (20_memory.md R101, 92 D3,
  log entry 73). -/
  code : Memory
deriving DecidableEq, Repr, Inhabited

/-- Nothing held anywhere. -/
def Caches.empty : Caches := ⟨⟨[], 0⟩, ⟨[], 0⟩, ⟨[], 0⟩, ⟨[], 0⟩, ⟨[], 0⟩, ⟨[], 0⟩, ⟨[], 0⟩, 0, []⟩

/-! ### What `X86_ISA` sees and answers (00_scope.md R12; 92 D1) -/

/-- What a call of `X86_ISA` can depend on beside its own state: memory as far as A20M# lets it be addressed (20_memory.md
R91), caches, the level inputs A20M# and IGNNE# whose effect is `X86_ISA`'s (45_signals.md R314, R328), and the number of the
call, on which the environment's answers for bytes memory does not list depend (93 U6, log entry 74). -/
structure BusView where
  mem    : Memory
  caches : Caches
  a20m   : Bool
  ignne  : Bool
  draw   : Nat
deriving DecidableEq, Repr, Inhabited

/-- One `MemWrite(addr, n, v)` of `X86_ISA` (00_scope.md R12). -/
structure Store where
  addr : Addr
  n    : Nat
  v    : Nat
deriving DecidableEq, Repr, Inhabited

/-- What a call of `X86_ISA` does: the new x86 state, the new cache contents, the memory writes in order. -/
structure X86Effect where
  x86    : X86
  caches : Caches
  stores : List Store
deriving DecidableEq, Repr, Inhabited

/-- The answer of `X86_ISA.step` to bytes that are none of the four instructions (30_encoding.md R114, R115). -/
inductive X86Reply where
  /-- The bytes decode: "otherwise -> S.x86 <- r" (40_power_states.md R132). -/
  | runs (e : X86Effect)
  /-- `X86_ISA` cannot decode the bytes (93 U2). -/
  | undecodable
deriving DecidableEq, Repr, Inhabited

/-- The argument of `X86_ISA.deliver(S.x86, kind, info)` (60_exceptions.md R403 to R408). -/
inductive Delivery where
  | intr (vector : BitVec 8)
  | nmi
  | smi
  | apic (message : Opaque)
deriving DecidableEq, Repr

/-- The four registers CPUID writes (42_instructions.md R214). -/
structure CpuidResult where
  eax : Dword
  ebx : Dword
  ecx : Dword
  edx : Dword
deriving DecidableEq, Repr, Inhabited

/-! ### Pins, environment, time -/

/-- Levels of the pins the rules read or write (R32); true is asserted (00_scope.md R11 (a)). The strap outputs are
functions of the part (Machine/Straps.lean) and FERR of the x86 state (Machine/Flags.lean). -/
structure Pins where
  stpclk    : Bool
  reset     : Bool
  init      : Bool
  intr      : Bool
  nmi       : Bool
  smi       : Bool
  a20m      : Bool
  ignne     : Bool
  connect   : Bool
  clkfwdrst : Bool
  pwrok     : Bool
  /-- Output (45_signals.md R342). -/
  procrdy   : Bool
  /-- Output; no rule gives it a behaviour (45_signals.md R324). -/
  dbrdy     : Bool
  /-- SYSCLK/SYSCLK# running (70_reset_and_hazards.md R470). -/
  sysclk    : Bool
  /-- PICCLK running (70_reset_and_hazards.md R471). -/
  picclk    : Bool
deriving DecidableEq, Repr

/-- Why the Southbridge asserts STPCLK# (40_power_states.md R147 to R149). -/
inductive StpclkCause where
  /-- The operating system read P_LVL2: ACPI C2. -/
  | pLvl2
  /-- Throttling, by THERM# or P_CNT. -/
  | throttling
  /-- SLP_TYP and SLP_EN were written: ACPI S1. -/
  | sleepS1
deriving DecidableEq, Repr, Inhabited

/-- What the rules need to remember of the environment: its parameters (41_connect_protocol.md R172), and the facts its
`require` clauses are about. -/
structure Env where
  /-- `NB_DISC_ON_HALT` (R172). -/
  nbDiscOnHalt : Bool
  /-- `NB_DISC_ON_SG` (R172). -/
  nbDiscOnSg : Bool
  /-- A probe has been sent and not yet been declared serviced (R174). -/
  probeOutstanding : Bool
  /-- A data movement is outstanding (R174). -/
  dataMoving : Bool
  /-- The bus has been disconnected in the present Halt or Stop Grant, and no probe has been sent since (20_memory.md R93). -/
  probeDue : Bool
  /-- NB_RESET# is asserted (70_reset_and_hazards.md R457). -/
  nbReset : Bool
  /-- NB_RESET# has been asserted during the present RESET# (R457, R462). -/
  nbResetSeen : Bool
  /-- CONNECT has been sampled asserted during the present RESET# (R457). -/
  connectSampled : Bool
  /-- The vector the environment answers the next interrupt acknowledge with (60_exceptions.md R404). -/
  vector : BitVec 8
  /-- Why STPCLK# was last asserted (R147 to R149). -/
  stpclkCause : StpclkCause
  /-- What the chipset read when it last sampled FID[3:0] (70_reset_and_hazards.md R458, R463). -/
  fidSample : Option (BitVec 4)
  /-- The level of VCC_CORE in millivolts (R453 (b); 43_electrical_thermal.md R240). -/
  vccCoreMv : Int
  /-- The die temperature last reported, in degrees Celsius (43_electrical_thermal.md R232, R241). -/
  dieC : Int
deriving DecidableEq, Repr

/-- The asynchronous inputs of the Southbridge group, to which the capture rule applies (60_exceptions.md R401; 70 R461,
R476). -/
inductive EventPin where
  | stpclk
  | init
  | smi
  | nmi
  | intr
  | reset
  | a20m
  | ignne
  | flush
deriving DecidableEq, Repr, Inhabited

/-- Times in picoseconds (`t(e)` of 00_scope.md R12): read by `require` clauses only (70_reset_and_hazards.md R472). -/
structure Times where
  now         : Nat
  /-- `t(reset_assert)`. -/
  resetAt     : Option Nat
  /-- `t(3.3 V good)`. -/
  v33At       : Option Nat
  /-- `t(VCCA good)`. -/
  vccaAt      : Option Nat
  /-- `t(pwrok_assert)`. -/
  pwrokAt     : Option Nat
  /-- Time of the Northbridge's last command to the processor (41 R174). -/
  commandAt   : Option Nat
  /-- `t(clkfwdrst_deassert)` (41 R185 condition 6). -/
  clkfwdrstAt : Option Nat
  /-- The SYSCLK period (43_electrical_thermal.md R252). -/
  period      : Nat
  /-- The period of the specified SYSCLK frequency, from which spread spectrum departs (R252 note 3). -/
  nominal     : Nat
  /-- Whether the period last grew, and when it last turned from shrinking to growing or back (R252 note 3). -/
  lengthening : Bool
  turnedAt    : Option Nat
  /-- How long VCC_CORE has been above, below its static tolerance without a break (R240). -/
  vccAbove    : Nat
  vccBelow    : Nat
  /-- The last assertion of each asynchronous pin, whether or not it was captured (70 R476). -/
  stpclkAt    : Option Nat
  initAt      : Option Nat
  smiAt       : Option Nat
  nmiAt       : Option Nat
  intrAt      : Option Nat
  resetPinAt  : Option Nat
  a20mAt      : Option Nat
  ignneAt     : Option Nat
deriving DecidableEq, Repr

/-- Pins the board must hold inactive (45_signals.md R367; 93 U9). -/
inductive TieOff where
  | flush
  | dbreq
  | jtag
  | scan
  | pllTest
deriving DecidableEq, Repr, Inhabited

/-- The voltages the data sheet limits (43_electrical_thermal.md R236 to R241, R268; 70 R468). -/
inductive Rail where
  | vccCore
  | vcca
  /-- A signal pin but for those named below. -/
  | signalPin
  /-- PICD[1:0]# and PICCLK (R268). -/
  | apicPin
  | fidPullup
  /-- FID[3:0]'s pull-up behind an isolation circuit (45_signals.md R341, R367). -/
  | fidPullupIsolated
  | vidPullup
  | fsbSensePullup
deriving DecidableEq, Repr, Inhabited

/-- Input events (R33), and the raw supply, clock and board events the power-up rules are about. The list a state holds
is the schedule: it also resolves what the spec leaves to chance between events (when STPCLK# is recognised, what is
loaded speculatively); a claim about every list is a claim about every environment (log entry 6). -/
inductive Input where
  /-- The processor's own step: an instruction in Working, PROCRDY's edges in the connect machine. With `recognise`,
  an asserted STPCLK# is recognised at this boundary (40 R135, 70 R489). -/
  | step (recognise : Bool)
  | stpclkAssert (cause : StpclkCause)
  | stpclkDeassert
  | intr
  | nmi
  | smi
  | init
  | apicMsg (m : Opaque)
  /-- INTR, NMI, SMI# or INIT# is deasserted. -/
  | release (p : EventPin)
  /-- A raw assertion of a pin for `d` picoseconds (70 R476). -/
  | pulse (p : EventPin) (d : Nat)
  /-- The environment decides the vector of the next interrupt acknowledge. -/
  | vector (v : BitVec 8)
  | resetAssert
  | resetDeassert
  | nbReset (asserted : Bool)
  | pwrokAssert
  | pwrokDeassert
  | sampleFid
  | sipDone (cfg : SipConfig)
  | connectDeassert
  | connectAssert
  | clkfwdrstAssert
  | clkfwdrstDeassert
  | fwdclkStart
  | probe (p : Opaque)
  | probeDone
  /-- The Northbridge sends a command to the processor. -/
  | command
  /-- A data movement begins or ends. -/
  | dataMovement (outstanding : Bool)
  /-- BIOS sets the Northbridge's disconnect enables. -/
  | nbEnables (onHalt onSg : Bool)
  /-- Another bus master writes, or reads, a byte of memory (20_memory.md R93). -/
  | busWrite (a : Addr) (b : Byte)
  | busRead (a : Addr)
  | a20m (asserted : Bool)
  | ignne (asserted : Bool)
  /-- A pin the board must hold inactive becomes active. -/
  | tieOff (t : TieOff)
  | sysclk (running : Bool)
  | sysclkPeriod (ps : Nat)
  | picclk (running : Bool)
  | supply33Good
  /-- The 3.3 V supply leaves its specification. -/
  | supply33Lost
  | vccaGood
  /-- VCC_CORE is applied at a level in millivolts. -/
  | vccCoreOn (mv : Int)
  /-- VCC_CORE is removed (thermal shutdown, 43 R274 to R276, or switching off). -/
  | powerOff
  /-- A rail comes to a level in millivolts and is there for a duration in picoseconds; VCC_CORE stays there. -/
  | rail (r : Rail) (mv : Int) (d : Nat)
  /-- The die temperature in degrees Celsius. -/
  | dieTemp (celsius : Int)
  /-- Time passes. -/
  | elapse (ps : Nat)
  /-- The processor loads cache lines or TLB entries no instruction asked for (70 R482). -/
  | speculate (c : Caches)
deriving DecidableEq, Repr

end Sys2Proof.Machine
end

