-- ==== Sys2Proof/Config.lean ====
section
/-! DEFINITION. Config.lean: the parameter `X86_ISA` (00_scope.md R12; 92_eei_decisions.md D1), the other open
parameters (R9, 92 D6, D19), and the values the spec makes "any value" (93 U1, U4, U11). Each is a constant with no
body: nothing in Lean can evaluate it, so every theorem holds whatever it is. -/

namespace Sys2Proof.Config

open Sys2Proof.Machine

/-! ### The parameter `X86_ISA` (92 D1) -/

/-- `X86_ISA`'s address translation for the instruction fetch, where it translates: the address of the `k`-th byte of the
next instruction, none where the translation fails (20_memory.md R96, log entry 72). Accessed and dirty handling is not in the
source; DESIGN CHOICE (log entry 81): a translation that succeeds yields this address and does nothing else. -/
opaque x86FetchAddress : X86 → BusView → Nat → Option Addr

/-- What `X86_ISA` does when that translation fails (R96: the fault raised is its own). -/
opaque x86FetchFault : X86 → BusView → X86Effect

/-- `X86_ISA.step` on bytes that are none of the four instructions (40_power_states.md R132; 30_encoding.md R114). -/
opaque x86Step : X86 → BusView → X86Reply

/-- What `X86_ISA` does with one of the four instructions where its rule says "X86_ISA decides": an MSR address other
than C001_001Bh (42_instructions.md R217, R218) and a mode that does not allow the instruction (60_exceptions.md R420). -/
opaque x86Decides : Instr → X86 → BusView → X86Effect

/-- `X86_ISA.deliver` (60_exceptions.md R403): saving state, choosing a handler, changing mode are all its own. -/
opaque x86Deliver : X86 → BusView → Delivery → X86Effect

/-- `X86_ISA.reset_state` (10_state.md R63; 93 U1: any value). -/
opaque x86ResetState : X86

/-- What INIT# leaves in the x86 state outside the integer registers, the floating-point registers, the first fetch and
the pending numeric exception behind FERR (10_state.md R62): not stated (93 U1), so any value. -/
opaque x86AfterInit : X86 → X86

/-! ### Other open parameters -/

/-- `CPUID_TABLE` (92 D19). -/
opaque cpuidTable : Dword → CpuidResult

/-- `HALT_DIV` away from its one known point (10_state.md R46; 93 U5). -/
opaque haltDivOther : Quad → Nat

/-- `SG_DIV` away from its one known point (R46; 93 U5). -/
opaque sgDivOther : Quad → Nat

/-- `PA_WIDTH` minus 33 (92 D6: `PA_WIDTH >= 33`, otherwise open). -/
opaque paWidthExtra : Fin 32

/-- `PA_WIDTH`, the physical address width: at least 33 by the printed address `0_FFFF_FFF0h` (D6); at most the
model's 64-bit container (log entry 5). -/
def paWidth : Nat := 33 + paWidthExtra.val

/-- How much longer than 40 ns TRPT is while the core clock is divided: "by an unstated amount" (70 R476). -/
opaque trptLowPowerExtra : Nat

/-- The bits of CLK_Ctl the source calls reserved and does not identify (42_instructions.md R216, R218; 91 N21). -/
opaque clkCtlReserved : Quad

/-! ### The organisation of the caches, as far as it is stated (00_scope.md R9; 20_memory.md R94; 10_state.md R57, R58) -/

/-- The L1 instruction part in Kbytes; the data part is the rest of 128 (R9: "the split sizes are n/s"). -/
opaque l1InstrKb : Fin 129

/-- The line size in bytes (R94: not stated). -/
opaque lineBytes : Nat

/-- Entry counts of the TLBs other than the L1 data TLB (R9, R58: not stated). -/
opaque itlb1Entries : Nat
opaque dtlb2Entries : Nat
opaque itlb2Entries : Nat

/-- `probe_effect(S.cache, p)` (40_power_states.md R151). Whether A20M# applies to probes is left to `X86_ISA` (92 D7), so the effect
may depend on its level (log entry 62). -/
opaque probeEffect : Caches → Bool → Opaque → Caches

/-! ### Any value: the n-th draw of a free value (the state counts the draws) -/

/-- The caches, TLBs and prefetcher after RESET# (70 R461, U1). -/
opaque cachesAfterReset : Nat → Caches

/-- CLK_Ctl after RESET# (70 R461, U1). -/
opaque clkCtlAfterReset : Nat → Quad

/-- What the environment answers, at the n-th draw, for a byte at an address memory lists nothing at (20_memory.md R90; 93
U6: a parameter of the environment). -/
opaque environmentByte : Nat → Nat → Byte

/-- The level of PROCRDY while the processor is in reset (10_state.md R62: n/s). -/
opaque procrdyInReset : Nat → Bool

/-- What FID[3:0] reads as when it is not valid (93 U11). -/
opaque fidNotValid : Nat → BitVec 4

/-- Whether a pin assertion the capture rule does not guarantee is seen (93 U4). -/
opaque capturesAnyway : Nat → Bool

/-- Whether an asserted STPCLK# is recognised at a boundary no input decides (40 R135: the number of instructions
before recognition is not stated). -/
opaque recognisesStpclk : Nat → Bool

end Sys2Proof.Config
end

