-- ==== Sys2Proof/Machine/Operands.lean ====
section
/-! DEFINITION. Machine/Operands.lean: the operand forms of the four instructions. None has an operand field: all operands
are implicit registers (30_encoding.md R113; 42_instructions.md R214, R217, R218; the conventions are 93 G2 and G3). -/

namespace Sys2Proof.Machine

/-- The address of the Clock Control MSR (10_state.md R46; 42_instructions.md R216). -/
def clkCtlAddress : Dword := 0xC001001B#32

/-- Implicit operand: the MSR address, ECX (R217, R218). -/
def msrAddress (x : X86) : Dword := x.gpr.ecx

/-- Implicit operand of WRMSR: the value EDX:EAX (R218). -/
def msrValue (x : X86) : Quad := x.gpr.edx ++ x.gpr.eax

/-- Result of RDMSR: EDX holds bits 63 to 32, EAX bits 31 to 0 (R217). -/
def setMsrResult (v : Quad) (x : X86) : X86 :=
  { x with gpr := { x.gpr with eax := v.extractLsb' 0 32, edx := v.extractLsb' 32 32 } }

/-- Implicit operand of CPUID: the function number, EAX (R214). -/
def cpuidFunction (x : X86) : Dword := x.gpr.eax

/-- Result of CPUID: EAX, EBX, ECX and EDX (R214). -/
def setCpuidResult (r : CpuidResult) (x : X86) : X86 :=
  { x with gpr := { x.gpr with eax := r.eax, ebx := r.ebx, ecx := r.ecx, edx := r.edx } }

end Sys2Proof.Machine
end

