-- ==== Sys2Proof/WellFormed.lean ====
section
/-! DEFINITION. WellFormed.lean: what makes a row of the opcode table well formed, and with it an instruction
(30_encoding.md R113). An instruction of the four has no operand, so what can be ill formed is its row: each check below
refuses a row that breaks one sentence of R113. -/

namespace Sys2Proof

/-- The number of bytes of a format (R113: 1 byte, 2 bytes). -/
def Format.length : Format → Nat
  | .op1 => 1
  | .op2 => 2

/-- Bytes as one little-endian integer, the first byte lowest (R113; 20_memory.md R80). -/
def leNat : List Byte → Nat
  | []      => 0
  | b :: bs => b.toNat + 256 * leNat bs

/-- The row has as many bytes as its format says. -/
def OpcodeRow.lengthOk (r : OpcodeRow) : Bool := r.bytes.length == r.format.length

/-- A two-byte row begins with the escape `0Fh`, a one-byte row does not. -/
def OpcodeRow.escapeOk (r : OpcodeRow) : Bool := (r.bytes.head? == some 0x0F#8) == (r.format == .op2)

/-- `match` is the row's bytes as a little-endian integer. -/
def OpcodeRow.matchOk (r : OpcodeRow) : Bool := r.pat == leNat r.bytes

/-- Every bit of the row is fixed: the mask is all ones over the instruction's length. -/
def OpcodeRow.maskOk (r : OpcodeRow) : Bool := r.mask == 256 ^ r.bytes.length - 1

/-- A well-formed row of the opcode table. -/
def OpcodeRow.wf (r : OpcodeRow) : Bool := r.lengthOk && r.escapeOk && r.matchOk && r.maskOk

/-- An instruction is well formed when its row is. -/
def Instr.wf (i : Instr) : Bool := i.row.wf

end Sys2Proof
end

