-- ==== Sys2Proof/Decode.lean ====
section
/-! DEFINITION. Decode.lean: the decoder of the four byte patterns (30_encoding.md R113, R114) and, after it, the
encoder. The byte patterns are the spec's, marked there as general knowledge (93 G1); log entry 4. -/

namespace Sys2Proof

/-- What the decoder answers. Everything that is not one of the four byte strings of R113 is left to `X86_ISA`, by
name (R114, R115; 95 vector I8), never taken for a neighbour. -/
inductive Decoded where
  /-- One of the four instructions, and the bytes after it. -/
  | ours (i : Instr) (rest : List Byte)
  /-- The first byte is neither `F4h` nor `0Fh`: `X86_ISA` decodes it (prefixed forms of the four among them). -/
  | foreignOpcode (b : Byte)
  /-- The escape `0Fh` is followed by a byte of none of the four: `X86_ISA` decodes it. -/
  | foreignEscape (b : Byte)
  /-- The bytes end before the opcode does. -/
  | tooShort
deriving DecidableEq, Repr

/-- The second byte of the format `x86.0F_op2` (R113). -/
def decodeEscape (b : Byte) (rest : List Byte) : Decoded :=
  if b = 0x30#8 then .ours .wrmsr rest
  else if b = 0x32#8 then .ours .rdmsr rest
  else if b = 0xA2#8 then .ours .cpuid rest
  else .foreignEscape b

/-- The decoder, total on byte strings; the first byte is at the lowest address (R113). -/
def decode : List Byte → Decoded
  | []        => .tooShort
  | b :: rest =>
    if b = 0xF4#8 then .ours .hlt rest
    else if b = 0x0F#8 then
      match rest with
      | []         => .tooShort
      | b1 :: rest => decodeEscape b1 rest
    else .foreignOpcode b

/-- The instruction read, if it is one of the four. -/
def Decoded.instr? : Decoded → Option Instr
  | .ours i _ => some i
  | _         => none

/-- The bytes of an instruction in address order (R113). -/
def encode : Instr → List Byte
  | .hlt   => [0xF4#8]
  | .wrmsr => [0x0F#8, 0x30#8]
  | .rdmsr => [0x0F#8, 0x32#8]
  | .cpuid => [0x0F#8, 0xA2#8]

/-- The length of an instruction in bytes (R113). -/
def Instr.length (i : Instr) : Nat := (encode i).length

/-- The two bytes (the longest instruction's length) of a table word of `nbits` bits: bit 0 is the least significant
bit of the first byte, and every bit from `nbits` up is 0. -/
def wordBytes (nbits w : Nat) : List Byte :=
  let v := w % 2 ^ nbits
  [BitVec.ofNat 8 v, BitVec.ofNat 8 (v / 256)]

/-- The instruction the decoder reads from the table word `w` of `nbits` bits. -/
def decodeTableWord (nbits w : Nat) : Option Instr := (decode (wordBytes nbits w)).instr?

end Sys2Proof
end

