-- ==== Sys2Proof/Machine/Memory.lean ====
section
/-! DEFINITION. Machine/Memory.lean: physical memory as a list of cells in one canonical form, the physical address of an
access (20_memory.md R90, R91), and the two access primitives MemRead and MemWrite of 00_scope.md R12 with the byte order
of R80. -/

namespace Sys2Proof.Machine

/-- The canonical form: addresses strictly rising. A byte nothing has written has no value (log entry 11), so no entry
can equal it. -/
def Memory.wf : Memory → Bool
  | []            => true
  | [_]           => true
  | c :: d :: m => c.1 < d.1 && Memory.wf (d :: m)

/-- The byte at an address, if memory lists one: what an unlisted address reads as is the environment's (93 U6), so it
has no value here. -/
def Memory.read : Memory → Nat → Option Byte
  | [],     _ => none
  | c :: m, a => if c.1 = a then some c.2 else Memory.read m a

/-- Store a byte, keeping the canonical form. -/
def Memory.write : Memory → Nat → Byte → Memory
  | [],     a, b => [(a, b)]
  | c :: m, a, b =>
    if a < c.1 then (a, b) :: c :: m
    else if a = c.1 then (a, b) :: m
    else c :: Memory.write m a b

/-- An address as a `PA_WIDTH`-bit number (R9, 92 D6). `PA_WIDTH` is at least 33, so an address below 2^33 is itself. -/
def narrow (a : Addr) : Nat :=
  if a.toNat < 2 ^ 33 then a.toNat else a.toNat % 2 ^ Config.paWidth

/-- `phys(a)`: while A20M# is asserted, bit 20 of every physical address the core generates is 0 (R91; 92 D7). In which
modes it does is left open there; DESIGN CHOICE (log entry 62): in every mode, system management mode included. -/
def phys (a20m : Bool) (a : Addr) : Nat :=
  narrow (if a20m then a &&& ~~~(1#64 <<< 20) else a)

/-- Memory as far as the core can address it: while A20M# is asserted, the bytes at addresses with bit 20 clear (R91; 92 D7).
What `X86_ISA` sees of memory, and of the code bytes held before it, is this. -/
def visible (a20m : Bool) (m : Memory) : Memory := if a20m then m.filter fun c => !c.1.testBit 20 else m

/-- The rest: what A20M# hides. -/
def hidden (a20m : Bool) (m : Memory) : Memory := if a20m then m.filter fun c => c.1.testBit 20 else []

/-- `MemRead(addr, n)`: the byte at `addr` is bits 7 to 0 of the result, the byte at `addr + k` bits 8k+7 to 8k (R80). -/
def memRead (m : Memory) (a20m : Bool) (a : Addr) : Nat → Option Nat
  | 0     => some 0
  | n + 1 =>
    match m.read (phys a20m a), memRead m a20m (a + 1) n with
    | some b, some v => some (b.toNat + 256 * v)
    | _, _           => none

/-- `MemWrite(addr, n, v)`: bits 8k+7 to 8k of `v` go to `addr + k`, for k from 0 to n - 1 (R80). -/
def memWrite (m : Memory) (a20m : Bool) (a : Addr) : Nat → Nat → Memory
  | 0,     _ => m
  | n + 1, v => memWrite (m.write (phys a20m a) (BitVec.ofNat 8 v)) a20m (a + 1) n (v / 256)

/-- The memory writes of one call of `X86_ISA`, in order. What a write to an address nothing responds to does is the
environment's (R90; 93 U6); DESIGN CHOICE (log entry 79): memory lists it, and it is read back. -/
def storeAll (a20m : Bool) : List Store → Memory → Memory
  | [],      m => m
  | w :: ws, m => storeAll a20m ws (memWrite m a20m w.addr w.n w.v)

end Sys2Proof.Machine
end

