-- ==== Sys2Proof/Machine/Cache.lean ====
section
/-! DEFINITION. Machine/Cache.lean: the organisation of the caches and TLBs as far as it is stated (20_memory.md R94; 10_state.md
R57, R58; 00_scope.md R9): split L1, exclusive L2, exclusive second-level TLBs, capacities. Which line is where, and what it
holds, is not stated: it comes from the constants of Config, and what comes from them is fitted to this organisation. -/

namespace Sys2Proof.Machine

/-- How many lines an array of so many Kbytes holds; the line size is open (R94). That L1 and L2 share one line size, and count
lines alike, is not stated; DESIGN CHOICE (log entry 71). -/
@[irreducible] def linesOf (kb : Nat) : Nat := kb * 1024 / Config.lineBytes

/-- L1 and L2 in Kbytes, and their sum, since no line is in both (R57, R94). -/
def l1Kb : Nat := 128
def l2Kb : Nat := 512
def onChipKb : Nat := l1Kb + l2Kb

/-- Ports of the L1 cache, "dual-ported"; core clocks to one clock of the integrated L2 cache, "full-speed" (R94). -/
def l1Ports : Nat := 2
def l2ClockDivisor : Nat := 1

/-- The two parts of the split L1: their sizes are open, their sum is not (R94). -/
def l1InstrKb : Nat := Config.l1InstrKb.val
def l1DataKb : Nat := l1Kb - l1InstrKb

/-- L1 data TLB entries (R58). -/
def l1DtlbEntries : Nat := 40

/-- No more than `cap` lines or pages. -/
def CacheArray.cut (cap : Nat) (a : CacheArray) : CacheArray := { a with held := a.held.take cap }

/-- Without what another array holds. -/
def CacheArray.without (a b : CacheArray) : CacheArray := { a with held := a.held.filter fun n => !b.held.contains n }

/-- Contents made to fit the organisation: a line is in L1 or in L2, not both (R94), a page in the first or the second level
of its TLB (R58), and nothing holds more than it can. -/
def Caches.fit (c : Caches) : Caches :=
  let l1i := c.l1Instr.cut (linesOf l1InstrKb)
  let l1d := c.l1Data.cut (linesOf l1DataKb)
  let d1 := c.dtlb1.cut l1DtlbEntries
  let i1 := c.itlb1.cut Config.itlb1Entries
  { c with
    l1Instr := l1i, l1Data := l1d, l2 := ((c.l2.without l1i).without l1d |> .cut (linesOf l2Kb))
    dtlb1 := d1, itlb1 := i1
    dtlb2 := (c.dtlb2.without d1).cut Config.dtlb2Entries
    itlb2 := (c.itlb2.without i1).cut Config.itlb2Entries }

/-- Two arrays hold nothing in common. -/
def CacheArray.apart (a b : CacheArray) : Prop := ∀ n ∈ a.held, n ∉ b.held

/-- The organisation of R94 and R58. -/
structure Caches.Organised (c : Caches) : Prop where
  l1Instr : c.l1Instr.held.length ≤ linesOf l1InstrKb
  l1Data : c.l1Data.held.length ≤ linesOf l1DataKb
  l2 : c.l2.held.length ≤ linesOf l2Kb
  dtlb1 : c.dtlb1.held.length ≤ l1DtlbEntries
  itlb1 : c.itlb1.held.length ≤ Config.itlb1Entries
  dtlb2 : c.dtlb2.held.length ≤ Config.dtlb2Entries
  itlb2 : c.itlb2.held.length ≤ Config.itlb2Entries
  /-- "A line is held in L1 or in L2, not both" (R94). -/
  exclusiveInstr : c.l2.apart c.l1Instr
  exclusiveData : c.l2.apart c.l1Data
  /-- "The L2 ITLB and L2 DTLB both use exclusive architecture" (R58). -/
  exclusiveDtlb : c.dtlb2.apart c.dtlb1
  exclusiveItlb : c.itlb2.apart c.itlb1

/-- New contents where A20M# may be asserted: it masks bit 20 before the lookup (R91), so the code bytes it hides stay, and
none is brought in. -/
def Caches.under (new : Caches) (a20m : Bool) (old : Caches) : Caches :=
  { new with code := visible a20m new.code ++ hidden a20m old.code }

/-- What a probe leaves in the caches (40_power_states.md R151). Whether A20M# hides anything from it is open (92 D7, log entry
62). -/
def probeEffect (c : Caches) (a20m : Bool) (p : Opaque) : Caches := (Config.probeEffect c a20m p).fit

/-- The caches after RESET#: any value of this organisation (70_reset_and_hazards.md R461, 93 U1). -/
def cachesAfterReset (n : Nat) : Caches := (Config.cachesAfterReset n).fit

end Sys2Proof.Machine
end

