-- ==== Sys2Proof/Machine/State.lean ====
section
/-! DEFINITION. Machine/State.lean: the state record of 10_state.md R31 with the pins of R32, the environment's facts and
the schedule of inputs (R33); the reasons a step can stop; the state right after reset (R62). -/

namespace Sys2Proof.Machine

/-- The machine. The fields of R31 under their own names, then the pins, the environment, the times, the schedule. -/
@[ext]
structure State where
  /-- The product, a constant of the package (00_scope.md R3, R10; 92 D21). -/
  part : Part
  /-- `S.supply` (R36). -/
  supply : Supply
  /-- `S.rst` (R37). -/
  rst : ResetPhase
  /-- `S.pm` (R38). -/
  pm : Power
  /-- `S.probe_ret` (R39). -/
  probeRet : Resting
  /-- `S.sg_from_halt` (R40). -/
  sgFromHalt : Bool
  /-- `S.conn` (R41). -/
  conn : Conn
  /-- `S.disc_req` (R42). -/
  discReq : Bool
  /-- `S.owe_sg` (R45). -/
  oweSg : Bool
  /-- `S.wake` (R43). -/
  wake : Bool
  /-- `S.latched` (R44). -/
  latched : Latched
  /-- The model's own field: an INTR that was recognised, and that `X86_ISA` masked when its turn to be delivered came, "stays pending
  in the x86 sense" (40_power_states.md R142, log entry 23). -/
  intrPending : Bool
  /-- The model's own field: what arrived during the probe being serviced, oldest first (40_power_states.md R153, 92 D17, log entry
  24). -/
  deferred : List Deferred
  /-- `S.CLK_Ctl` (R46). -/
  clkCtl : Quad
  /-- The divisor of the internal clock in force: 1 is full speed (41_connect_protocol.md R184, R185). -/
  clockDiv : Nat
  /-- `S.sip` (R47). -/
  sip : SipConfig
  /-- `S.x86` (R50 to R56). -/
  x86 : X86
  /-- `S.cache` (R57 to R59). -/
  cache : Caches
  /-- `S.out` (R34), a ghost: what the processor emitted, oldest first. -/
  out : List OutEvent
  /-- Physical memory, the environment's `mem` (20_memory.md R89; 93 U6). -/
  mem : Memory
  /-- Pin levels (R32). -/
  pins : Pins
  /-- The environment's parameters and the facts its obligations are about. -/
  env : Env
  /-- Times, read by `require` clauses only (00_scope.md R12). -/
  times : Times
  /-- Inputs still to come, the next one first (R33). -/
  inputs : List Input
  /-- The model's own field: how many free values have been drawn (log entry 7). -/
  free : Nat
deriving DecidableEq, Repr

/-- There is no fault: the source defines no architectural fault, every trap is `X86_ISA`'s (60_exceptions.md R413; 93,
after U15), and an access nothing answers gets the environment's answer (93 U6, log entry 74). Safe: nothing raises one. -/
inductive Fault where
deriving DecidableEq, Repr

/-- A `require` that failed: the run is outside the model (00_scope.md R12; 93 part 1, treatment "refuse"). Every
constructor is safe: no theorem about a next state speaks of such a run. -/
inductive Refusal where
  /-- An instruction without a meaning, by its mnemonic. No arm of exec uses it. Safe. -/
  | notModelled (mnemonic : String)
  /-- HLT outside the Working state: `require S.pm = Working` (42_instructions.md R210). Safe. -/
  | notWorking
  /-- Bytes `X86_ISA` cannot decode (93 U2; 30_encoding.md R115), raised by the processor's own step. Safe. -/
  | undecodable
  /-- An edge input on a pin that is already at that level: an edge event is a change (10_state.md R33); so of VCC_CORE's
  application (log entry 82). Safe. -/
  | noEdge
  /-- STPCLK# deasserted while the Stop Grant special cycle is owed (93 U7). Safe. -/
  | stpclkReleasedEarly
  /-- CONNECT deasserted with no Halt or Stop Grant special cycle to answer (41 R185, R192 (a)). Safe. -/
  | disconnectNotInvited
  /-- CONNECT deasserted although the Northbridge's enable is off (41 R172). Safe. -/
  | disconnectDisabled
  /-- CONNECT deasserted with a probe or data movement outstanding (41 R174, 93 U13). Safe. -/
  | disconnectWhileBusy
  /-- CONNECT deasserted less than eight SYSCLK periods after the last command (41 R174). Safe. -/
  | disconnectTooEarly
  /-- CONNECT changed where the protocol has no such step (41 R192 (c), (e); log entries 65, 83). Safe. -/
  | connectOutOfOrder
  /-- CLKFWDRST changed where the protocol has no such step (41 R192 (b), (c); 93 U13). Safe. -/
  | clkfwdrstOutOfOrder
  /-- Forwarded clocks started elsewhere than three SYSCLK periods after CLKFWDRST fell (41 R185 condition 6). Safe. -/
  | fwdclkOutOfOrder
  /-- A probe sent while the bus is not connected (41 R192 (d), 95 K8), or another command (log entry 84). Safe. -/
  | probeWhileDisconnected
  /-- A probe or a connect for probing during ACPI S1 (40 R149; 20_memory.md R93). Safe. -/
  | probeInS1
  /-- A bus master's access completed while the processor's bus is not connected (20_memory.md R93). Safe. -/
  | busMasterWhileDisconnected
  /-- A bus master's access after a disconnect in the present Halt or Stop Grant, reconnected but before any probe
  (20_memory.md R93: "must reconnect and probe before"). Safe. -/
  | busMasterWithoutProbe
  /-- A bus master's access during ACPI S1 (40 R149; 20_memory.md R93). Safe. -/
  | busMasterInS1
  /-- WRMSR that changes a reserved bit of CLK_Ctl (42_instructions.md R218 (b); 93 U3). Safe. -/
  | reservedBitsChanged
  /-- PWROK asserted before RESET#, or less than 10 ns after it (70 R452). Safe. -/
  | pwrokBeforeReset
  /-- PWROK asserted before the supplies were good for long enough (70 R453). Safe. -/
  | supplyLate
  /-- PWROK asserted without SYSCLK or PICCLK running (70 R454, R471). Safe. -/
  | clockAbsent
  /-- PWROK fell or rose again while powered (70 R456). Safe. -/
  | pwrokGlitch
  /-- RESET# released too early (70 R455, R462). Safe. -/
  | resetReleasedEarly
  /-- RESET# released before NB_RESET# made CONNECT asserted (70 R457, R462). Safe. -/
  | nbResetLate
  /-- CONNECT deasserted while NB_RESET# is asserted: "a Northbridge in reset drives CONNECT asserted" (70 R457). Safe. -/
  | connectFellInNbReset
  /-- A SIP outside the SIP phase (70 R465 guard). Safe. -/
  | sipOutOfPhase
  /-- A SIP with SysPushPull = 0 (70 R465, 93 U14). Safe. -/
  | sipNotPushPull
  /-- A SIP that does not match FID[3:0] (70 R465, 93 U14). Safe. -/
  | sipWrongFid
  /-- SYSCLK or PICCLK stopped while powered (70 R470, R471; 93 U12). Safe. -/
  | clockStopped
  /-- A SYSCLK period, its change, or the rate of its changes outside the limits (43 R252; 93 U12). Safe. -/
  | clockOutOfRange
  /-- A pin the board must hold inactive was active (93 U9). Safe. -/
  | tieOffViolated (t : TieOff)
  /-- A voltage outside its limits (43 R236 to R241; 93 U8). Safe. -/
  | voltageOutOfRange (r : Rail)
  /-- A temperature outside its limits (43 R232, R241, R276; 93 U8). Safe. -/
  | temperatureOutOfRange
deriving DecidableEq, Repr

/-- The x86 state right after reset. The first fetch is decision D8; no other value is stated (93 U1): each is the
family's or zero, named in log entries 8 and 9. -/
def X86.atReset : X86 where
  gpr := ⟨0, 0, 0, 0, 0, 0, 0, 0⟩
  fetch := 0xFFFFFFF0#64
  translating := false
  cr0 := 0x60000010#32
  mode := .normal
  privileged := true
  intrMasked := true
  numericPending := false
  fp := 0
  simd := 0
  flags := 0
  apic := 0
  otherMsrs := 0
  rest := 0

/-- The pins right after reset: the bus is connected (41 R184), the powered clocks run (70 R470, R471), no event pin is
asserted (log entry 10). -/
def Pins.atReset : Pins where
  stpclk := false
  reset := false
  init := false
  intr := false
  nmi := false
  smi := false
  a20m := false
  ignne := false
  connect := true
  clkfwdrst := false
  pwrok := true
  procrdy := true
  dbrdy := false
  sysclk := true
  picclk := true

/-- The environment right after reset: nothing outstanding; the enables as in 95_test_vectors.md (log entry 10); a die
temperature of 25 °C (log entry 77). -/
def Env.atReset : Env where
  nbDiscOnHalt := true
  nbDiscOnSg := true
  probeOutstanding := false
  dataMoving := false
  probeDue := false
  nbReset := false
  nbResetSeen := true
  connectSampled := true
  vector := 0
  stpclkCause := .throttling
  fidSample := none
  vccCoreMv := 1650
  dieC := 25

/-- The clock of the model starts at 0; SYSCLK runs at 166.67 MHz (45_signals.md R320). -/
def Times.atReset : Times where
  now := 0
  resetAt := some 0
  v33At := some 0
  vccaAt := some 0
  pwrokAt := some 0
  commandAt := none
  clkfwdrstAt := none
  period := 6000
  nominal := 6000
  lengthening := false
  turnedAt := none
  vccAbove := 0
  vccBelow := 0
  stpclkAt := none
  initAt := none
  smiAt := none
  nmiAt := none
  intrAt := none
  resetPinAt := none
  a20mAt := none
  ignneAt := none

/-- The machine right after reset: the state in which `sip_done` leaves it (70_reset_and_hazards.md R460 t5, R465), by
the table of R62. CLK_Ctl is not stated there; it starts as the traces of 95_test_vectors.md start (log entry 8). The caches and TLBs
are any value there; DESIGN CHOICE (log entry 78): here they hold nothing. -/
def State.reset : State where
  part := .xp3000
  supply := .pll
  rst := .run
  pm := .working
  probeRet := .halt
  sgFromHalt := false
  conn := .connected
  discReq := false
  oweSg := false
  wake := false
  latched := .empty
  intrPending := false
  deferred := []
  clkCtl := 0x20031223#64
  clockDiv := 1
  sip := ⟨true, 0x3#4⟩
  x86 := X86.atReset
  cache := Caches.empty
  out := []
  mem := []
  pins := Pins.atReset
  env := Env.atReset
  times := Times.atReset
  inputs := []
  free := 0

end Sys2Proof.Machine
end

