-- ==== Sys2Proof/Machine/Ops.lean ====
section
/-! DEFINITION. Machine/Ops.lean: the named operations over the state. Emitting an output event, the calls of `X86_ISA`,
the instruction fetch, and taking an event (`X86_ISA.deliver`, 60_exceptions.md R403) as ONE shared operation. The source
describes no return from an event (R415): leaving a handler is an instruction of `X86_ISA`. -/

namespace Sys2Proof.Machine

/-- What a step or an input answers. -/
abbrev Result := Host.Outcome State Fault Refusal

/-- `require <cond>` of 00_scope.md R12: if it does not hold, the run is refused. -/
def require (c : Bool) (r : Refusal) (k : Result) : Result := if c then k else .refused r

/-- Carry on from an answer. -/
def andThen (o : Result) (k : State → Result) : Result :=
  match o with
  | .next s    => k s
  | .fault f   => .fault f
  | .refused r => .refused r

/-- Append an output event to `S.out` (R34). -/
def emit (e : OutEvent) (s : State) : State := { s with out := s.out ++ [e] }

/-- `emit SpecialCycle(k)` (00_scope.md R12). -/
def emitCycle (k : Cycle) (s : State) : State := emit (.cycle k) s

/-- Powered by the PLL and out of reset and SIP: only then do instructions execute and the power and connect machines
run (41_connect_protocol.md R194; 70_reset_and_hazards.md R461). -/
def State.running (s : State) : Bool := s.supply == .pll && s.rst == .run

/-- `lowpower(S)` (R41). -/
def State.lowPower (s : State) : Bool := s.conn == .disconnected

/-! ### Calls of `X86_ISA` -/

/-- What a call of `X86_ISA` sees of the machine: of memory and of the code bytes held, what A20M# lets it address (R91). -/
def busView (s : State) : BusView :=
  ⟨visible s.pins.a20m s.mem, { s.cache with code := visible s.pins.a20m s.cache.code }, s.pins.a20m, s.pins.ignne, s.free⟩

/-- Carry out what a call of `X86_ISA` does: its state, the caches, its memory writes; the next call is another draw. Nothing
of the power and connect machines, of CLK_Ctl or of the pins is `X86_ISA`'s (log entry 1). -/
def applyEffect (e : X86Effect) (s : State) : State :=
  { s with
    x86 := e.x86, cache := e.caches.fit.under s.pins.a20m s.cache
    mem := storeAll s.pins.a20m e.stores s.mem, free := s.free + 1 }

/-- "X86_ISA decides" for one of the four instructions (42_instructions.md R217, R218; 60_exceptions.md R420). -/
def decidedByX86 (i : Instr) (s : State) : State := applyEffect (Config.x86Decides i s.x86 (busView s)) s

/-- Advance the fetch address past an instruction (programs P1 and P3 of 95_test_vectors.md, log entry 12). -/
def advance (i : Instr) (s : State) : State :=
  { s with x86 := { s.x86 with fetch := s.x86.fetch + BitVec.ofNat 64 i.length } }

/-! ### Instruction fetch -/

/-- The address of the `k`-th byte of the next instruction (R51): the fetch address and what follows it, or, where `X86_ISA`
translates, what its translation gives; none where that fails (20_memory.md R96, log entry 72). -/
def fetchTranslated (s : State) (k : Nat) : Option Addr :=
  if s.x86.translating then Config.x86FetchAddress s.x86 (busView s) k else some (s.x86.fetch + BitVec.ofNat 64 k)

/-- The physical address of that byte (20_memory.md R91, in every mode: log entry 62). -/
def fetchAddr (s : State) (k : Nat) : Option Nat := (fetchTranslated s k).map (phys s.pins.a20m)

/-- The byte a fetch finds at a physical address: one the processor holds for the fetch, else the one memory lists (20_memory.md
R101, log entry 73). -/
def State.codeByte (s : State) (a : Nat) : Option Byte := (s.cache.code.read a).or (s.mem.read a)

/-- Fetch the `k`-th byte of the next instruction and go on with it. A translation that succeeds changes nothing, neither a page
table nor a TLB: DESIGN CHOICE (log entry 81). One that fails is `X86_ISA`'s fault (R96); where nothing is listed the environment
answers (20_memory.md R90; 93 U6, log entry 74). -/
def fetchThen (k : Nat) (go : Byte → State → Result) (s : State) : Result :=
  match fetchAddr s k with
  | none   => .next (applyEffect (Config.x86FetchFault s.x86 (busView s)) s)
  | some a =>
    match s.codeByte a with
    | some b => go b s
    | none   => go (Config.environmentByte s.free a) { s with free := s.free + 1 }

/-! ### Taking an event -/

/-- The physical address of the first fetch after INIT# (60_exceptions.md R407) and, by decision D8, after RESET#
(70_reset_and_hazards.md R466): `0_FFFF_FFF0h`. -/
def startAddress : Addr := 0xFFFFFFF0#64

/-- The x86 state after INIT# (R407): the integer registers are reset to `X86_ISA`'s values, the floating-point registers
are not affected, the next fetch is from physical `0_FFFF_FFF0h`, FERR is unchanged (10_state.md R62); what else changes is
not stated (93 U1). -/
def initX86 (x : X86) : X86 :=
  { Config.x86AfterInit x with
    gpr := Config.x86ResetState.gpr, fp := x.fp, fetch := startAddress, translating := false
    numericPending := x.numericPending }

/-- Deliver INIT# (R407): `S.cache`, CLK_Ctl, the bus and the SIP are unchanged (for the TLBs: log entry 20). -/
def deliverInit (s : State) : State := { s with x86 := initX86 s.x86 }

/-- `X86_ISA.deliver(S.x86, kind, info)` (R403). -/
def deliverX86 (d : Delivery) (s : State) : State := applyEffect (Config.x86Deliver s.x86 (busView s) d) s

/-- Enter system management mode (R406). -/
def enterSmm (s : State) : State := { s with x86 := { s.x86 with mode := .systemManagement } }

/-- TAKING AN EVENT, the one shared operation: what the processor does when an event of kind `k` is delivered in the
Working state. INIT# by R407; SMI# calls `X86_ISA` and enters system management mode (R406); NMI calls `X86_ISA`, with
no acknowledge and no vector (R405); an APIC message calls `X86_ISA` with the message `m`, no acknowledge (R408); INTR
runs an interrupt acknowledge that fetches the 8-bit vector, then calls `X86_ISA` with it (R404), and no INTR is pending any
more (92 D13: one entry a kind). -/
def deliver (k : Kind) (m : Opaque) (s : State) : State :=
  match k with
  | .init => deliverInit s
  | .smi  => enterSmm (deliverX86 .smi s)
  | .nmi  => deliverX86 .nmi s
  | .apic => deliverX86 (.apic m) s
  | .intr => deliverX86 (.intr s.env.vector) (emit (.intAck s.env.vector) { s with intrPending := false })

/-- An INTR that `X86_ISA` reports masked is no event at all (92 D4). -/
def State.deliverable (s : State) (k : Kind) : Bool := !(k == .intr && s.x86.intrMasked)

/-- The turn of a recognised event in Working: delivered "only if `X86_ISA` allows" it; an INTR it masks by then stays pending
(40_power_states.md R142, log entry 23). -/
def takeEvent (k : Kind) (m : Opaque) (s : State) : State :=
  if s.deliverable k then deliver k m s else { s with intrPending := true }

/-- A pending INTR that `X86_ISA` masks no longer (R142). -/
def State.intrDue (s : State) : Bool := s.intrPending && s.deliverable .intr

/-! ### The set of latched events -/

/-- Whether a kind is latched. -/
def Latched.has (l : Latched) : Kind → Bool
  | .init => l.init
  | .smi  => l.smi
  | .nmi  => l.nmi
  | .apic => l.apic
  | .intr => l.intr

/-- `S.latched + {kind}`: each kind is latched once, a second assertion is not counted (92 D13); the message of the APIC
event kept is the first one's (log entry 21). -/
def Latched.add (l : Latched) (k : Kind) (m : Opaque) : Latched :=
  match k with
  | .init => { l with init := true }
  | .smi  => { l with smi := true }
  | .nmi  => { l with nmi := true }
  | .apic => if l.apic then l else { l with apic := true, apicMsg := m }
  | .intr => { l with intr := true }

/-- Whether anything is latched. -/
def Latched.any (l : Latched) : Bool := l.init || l.smi || l.nmi || l.apic || l.intr

/-- The order in which several latched events are delivered (R414; 92 D12). -/
def deliveryOrder : List Kind := [.init, .smi, .nmi, .apic, .intr]

/-- Deliver one kind if it is latched. -/
def deliverIf (l : Latched) (s : State) (k : Kind) : State := if l.has k then takeEvent k l.apicMsg s else s

/-- `deliver_latched` (R410): every latched event, in order, and the set is emptied; what `X86_ISA` does not allow then is pending
from then on (40_power_states.md R142). -/
def deliverLatched (s : State) : State :=
  { deliveryOrder.foldl (deliverIf s.latched) s with latched := .empty }

/-- Remember an event until it is delivered (R44; 40_power_states.md R138, R141). -/
def latch (k : Kind) (m : Opaque) (s : State) : State := { s with latched := s.latched.add k m }

end Sys2Proof.Machine
end

