-- ==== Sys2Proof/Machine/Power.lean ====
section
/-! DEFINITION. Machine/Power.lean: the power-management machine of 40_power_states.md (Working, Halt, Stop Grant, Probe)
and the wake-up events that tie it to the connect machine (R137; 41_connect_protocol.md R186 to R190). -/

namespace Sys2Proof.Machine

/-! ### Entering Halt and Stop Grant -/

/-- Enter Halt (R133): the Halt special cycle is sent, which invites a disconnect. -/
def enterHalt (s : State) : State :=
  { emitCycle .halt { s with pm := .halt } with discReq := true }

/-- Enter Stop Grant from Working, at an instruction boundary (R135). -/
def enterStopGrant (s : State) : State :=
  { emitCycle .stopGrant { s with pm := .stopGrant, sgFromHalt := false } with discReq := true }

/-! ### Wake-up events (R137) -/

/-- The bus still operates: `Connected` or `DisconnectPending` (R137). -/
def State.busUp (s : State) : Bool := s.conn == .connected || s.conn == .disconnectPending

/-- A wake-up event while the bus still operates: the Connect special cycle if a disconnect was invited, and connected
(R137; 41 R186, R187). No probe is due to a bus master any more (20_memory.md R93). -/
def cancelDisconnect (s : State) : State :=
  { (if s.discReq then emitCycle .connect s else s) with
    conn := .connected, discReq := false, env := { s.env with probeDue := false } }

/-- A wake-up event while the bus is off or coming up: the Connect special cycle is owed (R137; 41 R188). -/
def oweConnect (s : State) : State := { s with wake := true, discReq := false }

/-- R137: on a wake-up event, go on with `k` at once if the bus operates, else when it is connected again. -/
def wakeUp (k : State → State) (s : State) : State :=
  if s.busUp then k (cancelDisconnect s) else oweConnect s

/-! ### "When connected" -/

/-- R138: Halt ends; every latched event is delivered in Working. -/
def finishHalt (s : State) : State := deliverLatched { s with pm := .working }

/-- R139: the owed Stop Grant special cycle is sent. -/
def finishOwedStopGrant (s : State) : State :=
  { emitCycle .stopGrant s with oweSg := false, discReq := true }

/-- R146: back in Halt, with its special cycle. -/
def reenterHalt (s : State) : State :=
  { emitCycle .halt { s with pm := .halt, sgFromHalt := false } with discReq := true }

/-- R146, then R144: events latched in a Stop Grant entered from Halt end the Halt at once (92 D15). -/
def returnToHalt (s : State) : State :=
  if s.latched.any then wakeUp finishHalt (reenterHalt s) else reenterHalt s

/-- R142: Stop Grant ends; back to Halt if it was entered from there, else to Working with the latched events. -/
def finishStopGrant (s : State) : State :=
  if s.sgFromHalt then returnToHalt s else deliverLatched { s with pm := .working }

/-- "Complete the pending rule of 40_power_states.md" (41 R185): R138, R139 or R142 by the power state. When two wake-up events
are pending (an interrupt, then STPCLK#, in a disconnected Halt) the spec does not say whose rule completes; DESIGN CHOICE
(log entry 63): the one of the present power state, Stop Grant; the interrupt stays latched through it (R141). -/
def finishPending (s : State) : State :=
  match s.pm with
  | .halt      => finishHalt s
  | .stopGrant => if s.oweSg then finishOwedStopGrant s else finishStopGrant s
  | .working   => s
  | .probe     => s

/-! ### Probe (R150 to R153) -/

/-- Go back to the state the probe interrupted (R152; an event during Probe does so first, R153, unless a probe is being serviced:
92 D17). -/
def leaveProbe (s : State) : State :=
  match s.pm with
  | .probe => { s with pm := s.probeRet.toPower }
  | _      => s

/-- Enter Probe from Halt or Stop Grant (R150). -/
def enterProbe (s : State) : State :=
  match s.pm with
  | .halt      => { s with pm := .probe, probeRet := .halt }
  | .stopGrant => { s with pm := .probe, probeRet := .stopGrant }
  | .working   => s
  | .probe     => s

/-! ### Events -/

/-- What an event of kind `k` does in a power state other than Probe (R156): delivered in Working, a wake-up event in Halt
(R138), latched in Stop Grant (R141). -/
def takeOrLatch (k : Kind) (m : Opaque) (s : State) : State :=
  match s.pm with
  | .working   => takeEvent k m s
  | .halt      => wakeUp finishHalt (latch k m s)
  | .stopGrant => latch k m s
  | .probe     => s

/-- A probe is being serviced in Probe: what arrives takes effect when it has been (R153, 92 D17). -/
def State.servicing (s : State) : Bool := s.pm == .probe && s.conn == .connected && s.env.probeOutstanding

/-- Remember what arrived until then. -/
def defer (d : Deferred) (s : State) : State := { s with deferred := s.deferred ++ [d] }

/-- An event of kind `k` reaches the processor (60_exceptions.md R402). While it is not running, no rule has it fire
(log entry 15); while a probe is being serviced it waits (R153, 92 D17). -/
def onEvent (k : Kind) (m : Opaque) (s : State) : State :=
  if s.running && s.deliverable k then
    if s.servicing then defer (.event k m) s else takeOrLatch k m (leaveProbe s)
  else s

/-- STPCLK# asserted in Halt (R139): a wake-up event (92 D14); the Stop Grant special cycle is owed until connected. What an
earlier wake-up event of this Halt latched stays latched (log entry 63). -/
def stopGrantFromHalt (s : State) : State :=
  wakeUp finishOwedStopGrant { s with pm := .stopGrant, sgFromHalt := true, oweSg := true }

/-- What an edge of STPCLK# does in a power state other than Probe (R156): asserted in Halt, R139; deasserted in Stop Grant,
R142. -/
def stpclkEdge (asserted : Bool) (s : State) : State :=
  match s.pm, asserted with
  | .halt,      true  => stopGrantFromHalt s
  | .stopGrant, false => wakeUp finishStopGrant s
  | .halt,      false => s
  | .stopGrant, true  => s
  | .working,   _     => s
  | .probe,     _     => s

/-! ### When the probe has been serviced (R153, 92 D17) -/

/-- The level STPCLK# had before what is deferred arrived, from its level now. -/
def levelBefore : List Deferred → Bool → Bool
  | [],               level => level
  | .stpclk b :: _,   _     => !b
  | .event _ _ :: ds, level => levelBefore ds level

/-- One deferred arrival takes effect: an event, or an edge of STPCLK#. -/
def serve (s : State) (d : Deferred) : State :=
  match d with
  | .event k m => takeOrLatch k m s
  | .stpclk b  => stpclkEdge b { s with pins := { s.pins with stpclk := b } }

/-- Everything deferred takes effect, in the order in which it arrived. -/
def serveDeferred (s : State) : State :=
  s.deferred.foldl serve
    { s with deferred := [], pins := { s.pins with stpclk := levelBefore s.deferred s.pins.stpclk } }

/-- ACPI S1: Stop Grant with software keeping bus masters and probes quiet (40_power_states.md R149). -/
def State.inS1 (s : State) : Bool := (leaveProbe s).pm == .stopGrant && s.env.stpclkCause == .sleepS1

/-! ### ACPI names and clock divisors -/

/-- The ACPI names of R130. -/
inductive AcpiName where
  | c0
  | c1
  | c2
  | s1
deriving DecidableEq, Repr

/-- The ACPI name of the power state (R130, R149; Halt = C1 is 93 G6). Probe is a transient sub-state with none. -/
def State.acpiName (s : State) : Option AcpiName :=
  match s.pm with
  | .working   => some .c0
  | .halt      => some .c1
  | .stopGrant => some (if s.env.stpclkCause == .sleepS1 then .s1 else .c2)
  | .probe     => none

/-- The one characterised value of CLK_Ctl (10_state.md R46). -/
def clkCtlKnown : Quad := 0x20031223#64

/-- `HALT_DIV` (R46): 8 at 2003_1223h, open elsewhere (93 U5). -/
def haltDiv (v : Quad) : Nat := if v = clkCtlKnown then 8 else Config.haltDivOther v

/-- `SG_DIV` (R46): 8 at 2003_1223h, open elsewhere (93 U5). -/
def sgDiv (v : Quad) : Nat := if v = clkCtlKnown then 8 else Config.sgDivOther v

/-- The divisor a disconnect brings into force, "according to `S.pm`" (41 R185; R134, R136). -/
def State.disconnectDiv (s : State) : Nat :=
  match s.pm with
  | .halt => haltDiv s.clkCtl
  | _     => sgDiv s.clkCtl

end Sys2Proof.Machine
end

