-- ==== Sys2Proof/Machine/System.lean ====
section
/-! DEFINITION. Machine/System.lean: the meanings of the four instructions (42_instructions.md R210, R214, R217, R218). -/

namespace Sys2Proof.Machine

/-- HLT (R210): `require S.pm = Working`; then Halt, the Halt special cycle, and an invited disconnect (40 R133). Where
`X86_ISA` does not allow HLT in the current mode, it decides (60_exceptions.md R420). No flag is written. -/
def execHlt (s : State) : Result :=
  require (s.pm == .working) .notWorking <|
  .next (if s.x86.privileged then enterHalt (advance .hlt s) else decidedByX86 .hlt s)

/-- CPUID (R214): EAX, EBX, ECX and EDX become `CPUID_TABLE(EAX)`, constants of the part. No flag is written. -/
def execCpuid (s : State) : Result :=
  let s1 := advance .cpuid s
  .next { s1 with x86 := setCpuidResult (Config.cpuidTable (cpuidFunction s.x86)) s1.x86 }

/-- RDMSR (R217): of C001_001Bh, EDX:EAX becomes CLK_Ctl; for every other address, and where the current mode does not
allow RDMSR, `X86_ISA` decides. No flag is written. -/
def execRdmsr (s : State) : Result :=
  if s.x86.privileged && msrAddress s.x86 == clkCtlAddress then
    let s1 := advance .rdmsr s
    .next { s1 with x86 := setMsrResult s.clkCtl s1.x86 }
  else .next (decidedByX86 .rdmsr s)

/-- The values of CLK_Ctl whose write the spec states, whatever was there before (R218's example; 95 I3, I4, P1). -/
def statedWrites : List Quad := [clkCtlKnown, 0#64]

/-- A write of CLK_Ctl the source allows: "change only the non-reserved bits" (R216, R218 (b); 93 U3). Which bits are reserved
is not stated (91 N21): an open mask (log entry 22). -/
def writeAllowed (old new : Quad) : Bool := statedWrites.contains new || (old ^^^ new) &&& Config.clkCtlReserved == 0#64

/-- WRMSR (R218): of C001_001Bh, CLK_Ctl becomes EDX:EAX, with no immediate effect on the power and connect machines; a write
that changes a reserved bit is outside the model (R218 (b), 93 U3); for every other address, and where the current mode does
not allow WRMSR, `X86_ISA` decides. No flag is written. -/
def execWrmsr (s : State) : Result :=
  if s.x86.privileged && msrAddress s.x86 == clkCtlAddress then
    require (writeAllowed s.clkCtl (msrValue s.x86)) .reservedBitsChanged <|
    .next { advance .wrmsr s with clkCtl := msrValue s.x86 }
  else .next (decidedByX86 .wrmsr s)

end Sys2Proof.Machine
end

