-- ==== Sys2Proof/Machine/Dispatch.lean ====
section
/-! DEFINITION. Machine/Dispatch.lean: one arm per instruction. -/

namespace Sys2Proof.Machine

def exec (i : Instr) (s : State) : Host.Outcome State Fault Refusal :=
  match i with
  | .hlt => Sys2Proof.Machine.execHlt s
  | .cpuid => Sys2Proof.Machine.execCpuid s
  | .rdmsr => Sys2Proof.Machine.execRdmsr s
  | .wrmsr => Sys2Proof.Machine.execWrmsr s

end Sys2Proof.Machine
end

