-- ==== Sys2Proof/Machine/Straps.lean ====
section
/-! DEFINITION. Machine/Straps.lean: the bit-exact codes of the source (30_encoding.md R119): FID[3:0] (45_signals.md R340,
R341), VID[4:0] (R355, R356), FSB_Sense[1:0] (R346), CPU_PRESENCE# (R323), and what each product carries (00_scope.md R3,
R10; 95_test_vectors.md V-FID, V-VID, V-FSB). -/

namespace Sys2Proof.Machine

/-- A processor-clock-to-SYSCLK ratio of Table 20, in halves. -/
inductive Ratio where
  | exactly (halves : Nat)
  /-- "≥ 12.5", the row of code 0011. -/
  | atLeast (halves : Nat)
deriving DecidableEq, Repr

/-- Table 20, complete (R340): the code is written FID[3] first. -/
def fidTable : List (BitVec 4 × Ratio) :=
  [(0b0000#4, .exactly 22), (0b0001#4, .exactly 23), (0b0010#4, .exactly 24), (0b0011#4, .atLeast 25),
   (0b0100#4, .exactly 10), (0b0101#4, .exactly 11), (0b0110#4, .exactly 12), (0b0111#4, .exactly 13),
   (0b1000#4, .exactly 14), (0b1001#4, .exactly 15), (0b1010#4, .exactly 16), (0b1011#4, .exactly 17),
   (0b1100#4, .exactly 18), (0b1101#4, .exactly 19), (0b1110#4, .exactly 20), (0b1111#4, .exactly 21)]

/-- The ratio a FID code stands for (R340). -/
def fidRatio (f : BitVec 4) : Option Ratio := fidTable.lookup f

/-- The FID code of a ratio in halves: one code for every ratio of 12.5 or more (R340 note 1); none below 5. -/
def fidOfRatio (halves : Nat) : Option (BitVec 4) :=
  if 25 ≤ halves then some 0b0011#4
  else (fidTable.find? fun r => r.2 == .exactly halves).map (·.1)

/-- Table 21, complete (R346), code written FSB_Sense[1] first: the bus frequency in MHz, none for RESERVED. -/
def fsbSenseMHz (f : BitVec 2) : Option Nat :=
  if f = 0b11#2 then some 133 else if f = 0b01#2 then some 166 else none

/-- Table 22 (R355) in millivolts, code written VID[4] first: 30 printed rows and the two codes whose row was lost in
extraction (00110, 10110; the spec's interpolation, 91 N11). Code 11111 is "No CPU". -/
def vidTable : List (BitVec 5 × Nat) :=
  [(0b00000#5, 1850), (0b00001#5, 1825), (0b00010#5, 1800), (0b00011#5, 1775), (0b00100#5, 1750), (0b00101#5, 1725),
   (0b00110#5, 1700), (0b00111#5, 1675), (0b01000#5, 1650), (0b01001#5, 1625), (0b01010#5, 1600), (0b01011#5, 1575),
   (0b01100#5, 1550), (0b01101#5, 1525), (0b01110#5, 1500), (0b01111#5, 1475)] ++
  [(0b10000#5, 1450), (0b10001#5, 1425), (0b10010#5, 1400), (0b10011#5, 1375), (0b10100#5, 1350), (0b10101#5, 1325),
   (0b10110#5, 1300), (0b10111#5, 1275), (0b11000#5, 1250), (0b11001#5, 1225), (0b11010#5, 1200), (0b11011#5, 1175),
   (0b11100#5, 1150), (0b11101#5, 1125), (0b11110#5, 1100)]

/-- VCC_CORE dictated by a VID code, in millivolts; none for "No CPU" (R355). -/
def vidMillivolts (v : BitVec 5) : Option Nat := vidTable.lookup v

/-! ### What a code bit is at its pin -/

/-- The state of a strap pin, as the package makes it. -/
inductive StrapPin where
  /-- Open circuit, or released by its open-drain output: High by the board's pull-up. -/
  | openCircuit
  /-- Driven Low by an open-drain output. -/
  | drivenLow
  /-- Connected to VSS on the package. -/
  | grounded
  /-- Pulled to ground on the package by a resistor, in ohms. -/
  | groundedThrough (ohms : Nat)
deriving DecidableEq, Repr

/-- FID[3:0]: "a code bit of 1 is the released (pulled-High) state and 0 the driven-Low state" (R341). -/
def fidPin (bit : Bool) : StrapPin := if bit then .openCircuit else .drivenLow

/-- VID[4:0]: "strapped to ground or left unconnected" (R355; 43_electrical_thermal.md R236). -/
def vidPin (bit : Bool) : StrapPin := if bit then .openCircuit else .grounded

/-- FSB_Sense[1:0]: "open circuit (logic level of 1)" or "pulled to ground (logic level of 0)" with 1 kΩ (R346). -/
def fsbSensePin (bit : Bool) : StrapPin := if bit then .openCircuit else .groundedThrough 1000

/-- The level the board reads, with the pull-up the spec has it place on these pins (R341, R346, R355). -/
def StrapPin.high : StrapPin → Bool
  | .openCircuit       => true
  | .drivenLow         => false
  | .grounded          => false
  | .groundedThrough _ => false

/-! ### What each product carries -/

/-- The model number (R3). -/
def Part.modelNumber : Part → Nat
  | .xp2500 => 2500
  | .xp2800 => 2800
  | .xp3000 => 3000

/-- `CORE_MHZ` (R3, R10). -/
def Part.coreMHz : Part → Nat
  | .xp2500 => 1833
  | .xp2800 => 2083
  | .xp3000 => 2167

/-- The clock multiplier in halves: 11, 12.5 and 13 times a SYSCLK of 166.67 MHz (R340; V-FID). -/
def Part.ratioHalves : Part → Nat
  | .xp2500 => 22
  | .xp2800 => 25
  | .xp3000 => 26

/-- FID[3:0] (V-FID). -/
def Part.fid : Part → BitVec 4
  | .xp2500 => 0b0000#4
  | .xp2800 => 0b0011#4
  | .xp3000 => 0b0011#4

/-- VID[4:0], the same for the three parts: 1.65 V (V-VID). It is static (R356). -/
def Part.vid : Part → BitVec 5 := fun _ => 0b01000#5

/-- FSB_Sense[1:0], the same for the three parts: 166 MHz (V-FSB). -/
def Part.fsbSense : Part → BitVec 2 := fun _ => 0b01#2

/-- CPU_PRESENCE# is connected to VSS on the package: Low whenever the part is in the socket (R323; V-PRES). -/
def cpuPresenceLow : Bool := true

/-- The ring oscillator, the PLL, or nothing clocks the core (R36). The core clock in kilohertz once the PLL does:
ratio times SYSCLK, over the divisor in force (70 R463; 41 R184). `period` is the SYSCLK period in picoseconds. -/
def State.coreKHz (s : State) : Nat :=
  s.part.ratioHalves * 1000000000 / (2 * s.times.period * s.clockDiv)

end Sys2Proof.Machine
end

