-- ==== Sys2Proof/Machine/Timing.lean ====
section
/-! DEFINITION. Machine/Timing.lean: every time constant of 70_reset_and_hazards.md R472, in picoseconds (the thermal event rate
is in Machine/Thermal.lean). Only `require` clauses read them (R472). -/

namespace Sys2Proof.Machine.Timing

/-- Minimum SYSCLK period, 6 ns (43_electrical_thermal.md R252). -/
def sysclkPeriodMin : Nat := 6000

/-- Maximum SYSCLK period: 50 MHz is the minimum frequency (R252). -/
def sysclkPeriodMax : Nat := 20000

/-- Bus transfers per SYSCLK period (20_memory.md R88). -/
def transfersPerPeriod : Nat := 2

/-- SYSCLK periods from the Northbridge's last command to CONNECT's deassertion (41_connect_protocol.md R174). -/
def disconnectWaitPeriods : Nat := 8

/-- SYSCLK periods from CLKFWDRST's deassertion to the start of the forwarded clocks (41 R185 condition 6, R191). -/
def forwardClockPeriods : Nat := 3

/-- TBIT, 20.0 ns (43 R266). -/
def tBit : Nat := 20000

/-- TRPT at full speed, 40.0 ns (43 R266). -/
def tRpt : Nat := 40000

/-- TVALID, 100 ns (43 R266; 70 R458, R459). -/
def tValid : Nat := 100000

/-- RESET# before PWROK, 10 ns, the recommended value (70 R452; 92 D20). -/
def resetBeforePwrok : Nat := 10000

/-- 3.3 V good to PWROK, 3 ms (70 R453 (a)). -/
def v33ToPwrok : Nat := 3000000000

/-- VCCA good to PWROK, 5 us (70 R453 (c)). -/
def vccaToPwrok : Nat := 5000000

/-- PWROK to RESET# deassertion, 1.0 ms, the recommended value (70 R455; 92 D20). -/
def pwrokToRelease : Nat := 1000000000

/-- Minimum assertion of RESET#, 1 ms (70 R462). -/
def resetMin : Nat := 1000000000

/-- What system implementations use in practice for the last two: 1.5 to 2.0 ms (70 R455, R462). -/
def pwrokToReleasePractice : Nat × Nat := (1500000000, 2000000000)
def resetPractice : Nat × Nat := (1500000000, 2000000000)

/-- The PLL's lock time: from "hundreds of nanoseconds" to "tens of microseconds" (70 R455). The two decades, 100 ns to 1 us and
10 us to 100 us, are a reading of these words (DEDUCED, log entry 71); no rule waits for the lock itself. -/
def pllLockShort : Nat × Nat := (100000, 1000000)
def pllLockLong : Nat × Nat := (10000000, 100000000)

/-- The core's clock period at full speed in picoseconds: the SYSCLK period over the ratio, in halves (R472; 45_signals.md
R340), and the one Table 1's frequency in MHz gives. -/
def corePeriod (period ratioHalves : Nat) : Rat := 2 * (period : Rat) / ratioHalves
def corePeriodOf (coreMHz : Nat) : Rat := 1000000 / (coreMHz : Rat)

/-- Half a cycle of the fastest spread spectrum, 100 kHz (43 R252 note 3, log entry 75): 5 us. -/
def spreadHalfCycle : Nat := 5000000

/-- tMAX_AC, 10 us (43 R240). -/
def tMaxAc : Nat := 10000000

/-- tMIN_AC, 5 us (43 R240). -/
def tMinAc : Nat := 5000000

/-- TSD_DELAY, 500 ms (43 R275). -/
def tShutdownDelay : Nat := 500000000000

/-- Synchronous inputs of the Southbridge group: setup 2.0 ns, hold 0.0 ps (43 R265). -/
def syncSetup : Nat := 2000
def syncHold : Nat := 0

/-- TDELAY, the longest output delay with respect to RSTCLK, 6.1 ns; the shortest is 0 (43 R265). -/
def tDelayMax : Nat := 6100

/-- PROCRDY valid after RSTCLK rises: 800 to 2000 ps (43 R262). -/
def procrdyValidMin : Nat := 800
def procrdyValidMax : Nat := 2000

/-- CONNECT and CLKFWDRST: setup and hold to RSTCLK rising, 500 ps each (43 R262). -/
def connectSetup : Nat := 500
def connectHold : Nat := 500

/-- Whether at least `d` has passed since an event that may not have happened (then it has not). -/
def since (t : Option Nat) (d now : Nat) : Bool :=
  match t with
  | none   => false
  | some t => t + d ≤ now

/-- Whether at least `d` has passed since an event, if it happened at all. -/
def clearOf (t : Option Nat) (d now : Nat) : Bool :=
  match t with
  | none   => true
  | some t => t + d ≤ now

/-- TRPT in force: larger by an unstated amount while the core clock is divided (70 R476). Which one counts where the bus was
disconnected at the pin's last assertion and is no longer at this one, or the reverse, is not stated (43_electrical_thermal.md R266:
"dependent on ... divisors, Low Power mode"); DESIGN CHOICE (log entry 89): the one of the connect state in which the later assertion
begins. -/
def trpt (s : State) : Nat :=
  match s.conn with
  | .disconnected => tRpt + Config.trptLowPowerExtra
  | _             => tRpt

end Sys2Proof.Machine.Timing
end

