-- ==== Sys2Proof/Machine/Electrical.lean ====
section
/-! DEFINITION. Machine/Electrical.lean: the electrical limits of 43_electrical_thermal.md, in whole units (mV, µA, mA, pF,
ps, MHz, mΩ, mV/ns; ideality factors in hundred-thousandths). They constrain the environment and change no behaviour of the state machines. -/

namespace Sys2Proof.Machine

/-- One row of a data-sheet table: a column that is blank or "–" is none. -/
structure Limit where
  min : Option Int
  nom : Option Int
  max : Option Int
deriving DecidableEq, Repr

/-- A value is within a row's minimum and maximum. -/
def Limit.admits (l : Limit) (x : Int) : Bool :=
  (match l.min with | none => true | some m => m ≤ x) && (match l.max with | none => true | some m => x ≤ m)

namespace Electrical

/-! ### Operating points, Table 1 (R230 to R233) -/

/-- A row of Table 1: V in mV, currents in mA, powers in mW, temperature in °C. -/
structure OperatingPoint where
  vccCoreMv      : Nat
  workingMaxMa   : Nat
  workingTypMa   : Nat
  stopGrantMaxMa : Nat
  stopGrantTypMa : Nat
  powerMaxMw     : Nat
  powerTypMw     : Nat
  dieMaxC        : Nat
deriving DecidableEq, Repr

/-- Table 1 (R230); that the 2800+ shares the first row is the spec's reading (93 G11). -/
def operatingPoint : Part → OperatingPoint
  | .xp2500 => ⟨1650, 41400, 32500, 12100, 7200, 68300, 53700, 85⟩
  | .xp2800 => ⟨1650, 41400, 32500, 12100, 7200, 68300, 53700, 85⟩
  | .xp3000 => ⟨1650, 45000, 35400, 12100, 7200, 74300, 58400, 85⟩

/-- The maximum current Table 1 gives for the power state (40 R158): Working, while running; Stop Grant S1, disconnected,
with CLK_Ctl at its characterised value (R233). No figure is given for Halt, for another Stop Grant, for Probe, or for a
machine that does not run. -/
def maxCurrentMa (s : State) : Option Nat :=
  if s.running then
    match s.pm, s.conn with
    | .working, _               => some (operatingPoint s.part).workingMaxMa
    | .stopGrant, .disconnected =>
      if s.inS1 && s.clkCtl == clkCtlKnown then some (operatingPoint s.part).stopGrantMaxMa else none
    | _, _                      => none
  else none

/-- The sign convention of chapter 7 (R234): a current sourced by the processor is negative, one sunk positive. -/
def signedCurrent (sourced : Bool) (magnitude : Nat) : Int := if sourced then -(magnitude : Int) else magnitude

/-! ### Power pins (R236 to R241) -/

/-- VID: IOL 6 mA, read as a minimum; VOH at most 5.25 V (R236). -/
def vidIol : Limit := ⟨some 6, none, none⟩
def vidVoh : Limit := ⟨none, none, some 5250⟩

/-- FID: IOL 6 mA, read as a minimum; VOH at most 2.625 V in Table 4 (R237). -/
def fidIol : Limit := ⟨some 6, none, none⟩
def fidVoh : Limit := ⟨none, none, some 2625⟩

/-- VCCA in mV, absolute, no transients (R238). -/
def vcca : Limit := ⟨some 2250, some 2500, some 2750⟩

/-- IVCCA in µA at a core frequency in MHz: 0 to 50 mA per GHz (R238). -/
def ivcca (coreMHz : Nat) : Limit := ⟨some 0, none, some (50 * coreMHz)⟩

/-- VCC_CORE_NOM in mV (R240). -/
def vccCoreNom : Int := 1650

/-- Static tolerance of VCC_CORE in the Working state, ±50 mV (R240). -/
def vccCoreDc : Limit := ⟨some 1600, some 1650, some 1700⟩

/-- Largest excursions of VCC_CORE, +150 and –100 mV (R240). -/
def vccCoreAc : Limit := ⟨some 1550, some 1650, some 1800⟩

/-- Longest time above, below the static window, in ps (R240). -/
def vccCoreMaxAcTime : Limit := ⟨none, none, some Timing.tMaxAc⟩
def vccCoreMinAcTime : Limit := ⟨none, none, some Timing.tMinAc⟩

/-- A VCC_CORE level is above, below the static window. -/
def aboveDc (mv : Int) : Bool := 1700 < mv
def belowDc (mv : Int) : Bool := mv < 1600

/-- A VCC_CORE level is within Table 6, having been above the static window for `above` and below it for `below` picoseconds
without a break: inside the window, or above it for at most tMAX_AC, or below it for at most tMIN_AC, never past the AC
limits (R240). -/
def vccCoreAllowed (mv : Int) (above below : Nat) : Bool :=
  vccCoreDc.admits mv
  || (aboveDc mv && mv ≤ 1800 && above ≤ Timing.tMaxAc)
  || (1550 ≤ mv && belowDc mv && below ≤ Timing.tMinAc)

/-- Absolute ratings, Table 7 (R241); "VCC_CORE Max" is taken as the DC maximum. -/
def absVccCore : Limit := ⟨some (-500), none, some 2200⟩
def absVcca : Limit := ⟨some (-500), none, some 3250⟩
def absPin : Limit := ⟨some (-500), none, some 2200⟩
/-- Storage temperature in °C (R241). -/
def storage : Limit := ⟨some (-40), none, some 100⟩

/-- The pull-ups of FSB_Sense[1:0] are 3.3-V tolerant (45_signals.md R346); here and below the minimum is that of any signal pin
(R241). -/
def fsbSensePullup : Limit := ⟨some (-500), none, some 3300⟩

/-- FID[3:0] pulled above 2.5 V must be isolated (45_signals.md R341; 70 R468): the limit without isolation. -/
def fidPullup : Limit := ⟨some (-500), none, some 2500⟩

/-- VID[4:0] is not pulled above 5.25 V (R236; 45_signals.md R356). -/
def vidPullup : Limit := ⟨some (-500), none, some 5250⟩

/-- The APIC pins are 2.5-V pins: at most 2.625 V (R268). -/
def apicPin : Limit := ⟨some (-500), none, some 2625⟩

/-- Whether a voltage at a rail is within its own limit: Table 5 for VCCA while powered, the absolute ratings, the pull-up
limits of 70 R468. "Any signal pin" of R241 (2.20 V) and the higher limits of VID, FID, APIC and FSB_Sense pins stand side by
side without a precedence; DESIGN CHOICE (log entry 67): a pin with a maximum of its own is held to that one. The minimum of R241 is
everyone's. Behind an isolation circuit a level does not reach the pin. -/
def railAllowed (s : State) (r : Rail) (mv : Int) : Bool :=
  match r with
  | .vccCore           => absVccCore.admits mv
  | .vcca              => absVcca.admits mv && (s.supply == .off || vcca.admits mv)
  | .signalPin         => absPin.admits mv
  | .apicPin           => apicPin.admits mv
  | .fidPullup         => fidPullup.admits mv
  | .fidPullupIsolated => true
  | .vidPullup         => vidPullup.admits mv
  | .fsbSensePullup    => fsbSensePullup.admits mv

/-- VCC_CORE is applied at a level (10_state.md R36: "`Off` when VCC_CORE is not applied"). From which level on is not stated; DESIGN
CHOICE (log entry 82): above 0 mV. -/
def applied (mv : Int) : Bool := 0 < mv

/-! ### System clock (R250, R252) -/

/-- Table 8: crossing thresholds in mV, leakage in µA, crossover in mV around VCC_CORE/2, capacitance in pF. -/
def sysclkThresholdDc : Limit := ⟨some 400, none, none⟩
def sysclkThresholdAc : Limit := ⟨some 450, none, none⟩
def sysclkLeakP : Limit := ⟨some (-1000), none, none⟩
def sysclkLeakN : Limit := ⟨none, none, some 1000⟩
def sysclkCross (vccCoreMv : Int) : Limit := ⟨some (vccCoreMv / 2 - 100), none, some (vccCoreMv / 2 + 100)⟩
def sysclkCapacitance : Limit := ⟨some 4, none, some 25⟩
/-- SYSCLK and SYSCLK# connect to two input pads each (R250 note). -/
def sysclkPads : Nat := 2

/-- Table 9 (R252): MHz, percent, ps. -/
def sysclkMHz : Limit := ⟨some 50, none, some 166⟩
def sysclkDuty : Limit := ⟨some 30, none, some 70⟩
def sysclkPeriod : Limit := ⟨some 6000, none, none⟩
def sysclkHigh : Limit := ⟨some 1050, none, none⟩
def sysclkLow : Limit := ⟨some 1050, none, none⟩
def sysclkFall : Limit := ⟨none, none, some 2000⟩
def sysclkRise : Limit := ⟨none, none, some 2000⟩
def sysclkStability : Limit := ⟨some (-300), none, some 300⟩
/-- Spread spectrum (note 3): from 100% down to 99% of the specified frequency, at most at 100 kHz. -/
def spreadPercent : Limit := ⟨some 99, none, some 100⟩
def spreadRateKHz : Limit := ⟨none, none, some 100⟩
/-- Clock-driver jitter: the –20 dB point is less than 500 kHz (note 2). -/
def jitterAllowed (kHz : Int) : Bool := kHz < 500

/-- A SYSCLK period in picoseconds is within Table 9: at least 6 ns, at least 50 MHz. -/
def periodAllowed (ps : Nat) : Bool := Timing.sysclkPeriodMin ≤ ps && ps ≤ Timing.sysclkPeriodMax

/-- A change of the period is within Table 9's stability, 300 ps either way. -/
def periodStable (old new : Nat) : Bool := sysclkStability.admits ((new : Int) - old)

/-- A period is within the spread of note 3: its frequency between 99% and 100% of the specified one. -/
def spreadAllowed (nominal ps : Nat) : Bool := nominal ≤ ps && 99 * ps ≤ 100 * nominal

/-- A change of the period turns from shrinking to growing, or back. -/
def turns (t : Times) (ps : Nat) : Bool := if t.lengthening then ps < t.period else t.period < ps

/-- Spread spectrum at most at 100 kHz (note 3). DESIGN CHOICE (log entry 75): two turns of the period are half a cycle of that
rate apart, 5 us. -/
def spreadRateAllowed (t : Times) (ps : Nat) : Bool :=
  !turns t ps || Timing.clearOf t.turnedAt Timing.spreadHalfCycle t.now

/-! ### System bus pins (R260 to R262) -/

/-- Table 10 in mV at a core voltage and reference: VREF, VIH, VIL. -/
def busVref (vccCoreMv : Int) : Limit := ⟨some (vccCoreMv / 2 - 50), some (vccCoreMv / 2), some (vccCoreMv / 2 + 50)⟩
def busVih (vrefMv vccCoreMv : Int) : Limit := ⟨some (vrefMv + 200), none, some (vccCoreMv + 500)⟩
def busVil (vrefMv : Int) : Limit := ⟨some (-500), none, some (vrefMv - 200)⟩
/-- Leakages in µA, capacitance in pF, impedance set points in Ω, driver resistance in percent of the set point. -/
def busVrefLeakP : Limit := ⟨some (-100), none, none⟩
def busVrefLeakN : Limit := ⟨none, none, some 100⟩
def busLeakP : Limit := ⟨some (-1000), none, none⟩
def busLeakN : Limit := ⟨none, none, some 1000⟩
def busCapacitance : Limit := ⟨some 4, none, some 7⟩
def busRon : Limit := ⟨some 90, none, some 110⟩
def busRsetP : Limit := ⟨some 40, none, some 70⟩
def busRsetN : Limit := ⟨some 40, none, some 70⟩

/-- Table 11, forwarded clocks: slew in V/ns, skew, setup and hold in ps, capacitances in pF (R261). -/
def fwdRise : Limit := ⟨some 1, none, some 3⟩
def fwdFall : Limit := ⟨some 1, none, some 3⟩
def fwdSkewDiffEdge : Limit := ⟨none, none, some 770⟩
def fwdSetup : Limit := ⟨some 300, none, none⟩
def fwdHold : Limit := ⟨some 300, none, none⟩
def fwdCin : Limit := ⟨some 4, none, some 25⟩
def fwdCout : Limit := ⟨some 4, none, some 12⟩

/-- Table 11, PROCRDY, CONNECT, CLKFWDRST, in ps from the rising edge of RSTCLK (R262). -/
def syncProcrdyValid : Limit := ⟨some Timing.procrdyValidMin, none, some Timing.procrdyValidMax⟩
def syncSetup : Limit := ⟨some Timing.connectSetup, none, none⟩
def syncHold : Limit := ⟨some Timing.connectHold, none, none⟩

/-! ### General pins, Table 12 (R264 to R266) -/

/-- Levels in mV at a core voltage; leakage in µA; currents in mA; capacitance in pF; slew in V/ns. -/
def genVih (vccCoreMv : Int) : Limit := ⟨some (vccCoreMv / 2 + 200), none, some (vccCoreMv + 300)⟩
def genVil : Limit := ⟨some (-300), none, some 350⟩
def genVoh (vccCoreMv : Int) : Limit := ⟨some (vccCoreMv - 400), none, some (vccCoreMv + 300)⟩
def genVol : Limit := ⟨some (-300), none, some 400⟩
def genLeakP : Limit := ⟨some (-1000), none, none⟩
def genLeakN : Limit := ⟨none, none, some 600⟩
def genIoh : Limit := ⟨none, none, some (-6)⟩
def genIol : Limit := ⟨some 6, none, none⟩
def genCapacitance : Limit := ⟨some 4, none, some 12⟩
def genSlew : Limit := ⟨some 1, none, some 3⟩
def genSetup : Limit := ⟨some Timing.syncSetup, none, none⟩
def genHold : Limit := ⟨some Timing.syncHold, none, none⟩
def genDelay : Limit := ⟨some 0, none, some Timing.tDelayMax⟩
/-- TBIT and TRPT are minimum durations, TVALID a maximum (R266). -/
def tBit : Limit := ⟨some Timing.tBit, none, none⟩
def tRpt : Limit := ⟨some Timing.tRpt, none, none⟩
def tValid : Limit := ⟨none, none, some Timing.tValid⟩

/-- Figure 11 (R267): series resistance in Ω and its tolerance in percent; termination in mV and current in mA, in the
tester's sign convention, of VID and FID pins and of APIC pins. -/
def testResistance : Nat := 50
def testTolerance : Nat := 3
def testVidFid : Int × Int := (1200, -6)
def testApic : Int × Int := (1000, -9)

/-! ### APIC pins, Table 15 (R268) -/

/-- Levels in mV, leakage in µA, current in mA, slew in V/ns, setup and hold in ps, capacitance in pF. -/
def apicVih : Limit := ⟨some 1700, none, some 2625⟩
def apicVil : Limit := ⟨some (-300), none, some 700⟩
def apicVoh : Limit := ⟨none, none, some 2625⟩
def apicVol : Limit := ⟨some (-300), none, some 400⟩
def apicLeakP : Limit := ⟨some (-1000), none, none⟩
def apicLeakN : Limit := ⟨none, none, some 1000⟩
def apicIol : Limit := ⟨some 9, none, none⟩
def apicSlew : Limit := ⟨some 1, none, some 3⟩
def apicSetup : Limit := ⟨some 1000, none, none⟩
def apicHold : Limit := ⟨some 1000, none, none⟩
def apicCapacitance : Limit := ⟨some 4, none, some 12⟩

/-! ### The thermal diode, Table 13 (R270) -/

/-- Sourcing current in µA; lumped and actual ideality factor in hundred-thousandths; series resistance in mΩ. The point at which the
lumped factor is characterised is `Thermal.characterised`. -/
def diodeSourcing : Limit := ⟨some 5, none, some 300⟩
def diodeLumped : Limit := ⟨some 100000, some 100374, some 100900⟩
def diodeActual : Limit := ⟨none, some 100261, none⟩
def diodeSeries : Limit := ⟨none, some 930, none⟩

end Electrical

/-! ### Time and VCC_CORE -/

/-- Time passes; VCC_CORE stays where it is, and the time of an excursion from its static window grows (43 R240). Table 6 is for
Working alone, and whether an excursion's part before Working counts once Working is entered is not stated; DESIGN CHOICE (log entry
90): it counts from its beginning, in whichever state. -/
def passTime (ps : Nat) (s : State) : State :=
  { s with times := { s.times with
      now := s.times.now + ps
      vccAbove := if Electrical.aboveDc s.env.vccCoreMv then s.times.vccAbove + ps else 0
      vccBelow := if Electrical.belowDc s.env.vccCoreMv then s.times.vccBelow + ps else 0 } }

/-- VCC_CORE is within Table 6 (43 R240). -/
def State.vccInTolerance (s : State) : Bool :=
  Electrical.vccCoreAllowed s.env.vccCoreMv s.times.vccAbove s.times.vccBelow

/-- VCC_CORE is within Table 6 where its limits bind, in the Working state (43 R240). -/
def State.vccCoreOk (s : State) : Bool := !(s.running && s.pm == .working) || s.vccInTolerance

/-- The machine comes to a state, which must keep Table 6 (93 U8): for every way into Working, and whatever happens in it that
could break the tolerance. -/
def comeTo (s : State) : Result := require s.vccCoreOk (.voltageOutOfRange .vccCore) (.next s)

/-- Time passes in a run. -/
def letPass (ps : Nat) (s : State) : Result := comeTo (passTime ps s)

end Sys2Proof.Machine
end

