-- ==== Sys2Proof/Machine/Connect.lean ====
section
/-! DEFINITION. Machine/Connect.lean: the processor's connect machine (41_connect_protocol.md R185) and the Northbridge's
inputs to it, with the Northbridge's obligations (R192) as `require` clauses. -/

namespace Sys2Proof.Machine

/-! ### The processor's edges of PROCRDY -/

/-- Condition 3: deassert PROCRDY and slow down the internal clocks (R185; 92 D18). From here on a bus master's access waits
for a connect and a probe (20_memory.md R93). -/
def dropProcrdy (s : State) : State :=
  emit (.procrdy false)
    { s with
      pins := { s.pins with procrdy := false }, conn := .disconnected, clockDiv := s.disconnectDiv
      env := { s.env with probeDue := true } }

/-- Condition 4, action C: internal clocks to full speed and PROCRDY asserted (R185). -/
def raiseProcrdy (s : State) : State :=
  emit (.procrdy true)
    { s with pins := { s.pins with procrdy := true }, conn := .connectPending1, clockDiv := 1 }

/-! ### CONNECT -/

/-- Whether the Northbridge's enable allows a disconnect in answer to the special cycle sent (R172). Its enables are constants
there; DESIGN CHOICE (log entry 80): if BIOS changes one, the setting in force when CONNECT falls counts. -/
def State.disconnectEnabled (s : State) : Bool :=
  match (leaveProbe s).pm with
  | .halt => s.env.nbDiscOnHalt
  | _     => s.env.nbDiscOnSg

/-- Condition 1 (R185): CONNECT is deasserted, which a Northbridge in reset does in no phase of the machine, because it drives CONNECT
asserted (70_reset_and_hazards.md R457). Outside the running machine the pin belongs to the SIP or to reset (R194).
While running, the Northbridge's obligations R172, R174 and R192 (a) are required; a disconnect ends a Probe in which
nothing is outstanding (40 R153, R156). R185 has no row for it in `ConnectPending1` and `ConnectPending2`, where a connect to
probe still has the disconnect invited; DESIGN CHOICE (log entry 83): refused there. -/
def onConnectDeassert (s : State) : Result :=
  let s1 := { s with pins := { s.pins with connect := false } }
  require s.pins.connect .noEdge <|
  require (!s.env.nbReset) .connectFellInNbReset <|
  if s.running then
    match s.conn with
    | .connected =>
      require s.discReq .disconnectNotInvited <|
      require s.disconnectEnabled .disconnectDisabled <|
      require (!s.env.probeOutstanding && !s.env.dataMoving) .disconnectWhileBusy <|
      require (Timing.clearOf s.times.commandAt (Timing.disconnectWaitPeriods * s.times.period) s.times.now)
        .disconnectTooEarly <|
      .next { leaveProbe s1 with conn := .disconnectPending }
    | .disconnectPending => .refused .connectOutOfOrder
    | .disconnected      => .refused .connectOutOfOrder
    | .connectPending1   => .refused .connectOutOfOrder
    | .connectPending2   => .refused .connectOutOfOrder
  else .next s1

/-- CONNECT is sampled asserted while RESET# is asserted (70_reset_and_hazards.md R457). -/
def sampleConnect (s : State) : State :=
  if s.rst == .inReset then { s with env := { s.env with connectSampled := true } } else s

/-- CONNECT is asserted: from `Disconnected`, condition 4 (R185), entering Probe if no wake-up event is owed a Connect
special cycle (R189; 40 R150); otherwise the level only. In `DisconnectPending`, where no Connect special cycle has cancelled the
request, the spec has no row for it; DESIGN CHOICE (log entry 65): refused. -/
def onConnectAssert (s : State) : Result :=
  let s1 := { s with pins := { s.pins with connect := true } }
  require (!s.pins.connect) .noEdge <|
  if s.running then
    match s.conn with
    | .disconnected =>
      if s.wake then .next (raiseProcrdy s1)
      else require (!s.inS1) .probeInS1 (.next (enterProbe (raiseProcrdy s1)))
    | .connected         => .next s1
    | .connectPending1   => .next s1
    | .connectPending2   => .next s1
    | .disconnectPending => .refused .connectOutOfOrder
  else .next (sampleConnect s1)

/-! ### CLKFWDRST and the forwarded clocks -/

/-- CLKFWDRST is asserted to complete a disconnect: not before PROCRDY has been deasserted (R175, R192 (b); 93 U13). R184 shows
it asserted in `ConnectPending1` and no guard of R185 asks for it; DESIGN CHOICE (log entry 64): a wake-up event or CONNECT may
come first, and the assertion is then accepted in `ConnectPending1`. -/
def onClkfwdrstAssert (s : State) : Result :=
  let s1 := { s with pins := { s.pins with clkfwdrst := true } }
  require (!s.pins.clkfwdrst) .noEdge <|
  if s.running then
    require (s.conn == .disconnected || s.conn == .connectPending1) .clkfwdrstOutOfOrder (.next s1)
  else .next s1

/-- Condition 5 (R185): CLKFWDRST is deasserted, with CONNECT asserted. -/
def onClkfwdrstDeassert (s : State) : Result :=
  let s1 := { s with pins := { s.pins with clkfwdrst := false } }
  require s.pins.clkfwdrst .noEdge <|
  if s.running then
    require (s.conn == .connectPending1) .clkfwdrstOutOfOrder <|
    require s.pins.connect .connectOutOfOrder <|
    .next { s1 with conn := .connectPending2, times := { s.times with clkfwdrstAt := some s.times.now } }
  else .next s1

/-- Condition 6 (R185): connected. Action B only after a wake-up event, and then the pending rule of
40_power_states.md is completed; no probe is due to a bus master any more (20_memory.md R93). -/
def forwardClocks (s : State) : State :=
  let s1 := { s with conn := .connected }
  if s1.wake then
    finishPending { emitCycle .connect s1 with wake := false, env := { s.env with probeDue := false } }
  else s1

/-- The forwarded clocks start, three SYSCLK periods after CLKFWDRST's deassertion (R185 condition 6, R191): the event
brings the time to that moment and cannot come later. DESIGN CHOICE (log entry 66): the period in force now counts, here and
for the eight periods of R174, if it changed since. -/
def onFwdclkStart (s : State) : Result :=
  require (s.running && s.conn == .connectPending2) .fwdclkOutOfOrder <|
  match s.times.clkfwdrstAt with
  | none   => .refused .fwdclkOutOfOrder
  | some t =>
    let due := t + Timing.forwardClockPeriods * s.times.period
    require (s.times.now ≤ due) .fwdclkOutOfOrder <|
    comeTo (forwardClocks (passTime (due - s.times.now) s))

/-! ### Probes, commands, data movements -/

/-- A probe (40 R151; 20_memory.md R92): answered in Working, in Probe, and in place in Halt and Stop Grant while
connected (92 D16); only once connected (R189, R192 (d)), and not in S1 (40 R149). -/
def onProbe (p : Opaque) (s : State) : Result :=
  require (s.running && s.conn == .connected) .probeWhileDisconnected <|
  require (!s.inS1) .probeInS1 <|
  .next (emit (.probeResponse p)
    { s with
      cache := probeEffect s.cache s.pins.a20m p
      env := { s.env with probeOutstanding := true, probeDue := false }
      times := { s.times with commandAt := some s.times.now } })

/-- All probes are serviced: Probe is left (40 R152), and what arrived meanwhile takes effect (R153, 92 D17); in Working, Halt and
Stop Grant no transition. What a machine that lost its power had deferred is lost. -/
def onProbeDone (s : State) : Result :=
  let s1 := { s with env := { s.env with probeOutstanding := false } }
  if s.running then comeTo (serveDeferred (leaveProbe s1)) else .next { s1 with deferred := [] }

/-- The Northbridge sends a command that is no probe to the processor: it starts the wait of R174. Where the bus is not `Connected`
R189 and R192 (d) forbid probes and no rule speaks of other commands; DESIGN CHOICE (log entry 84): refused like a probe. -/
def onCommand (s : State) : Result :=
  require (s.running && s.conn == .connected) .probeWhileDisconnected <|
  .next { s with times := { s.times with commandAt := some s.times.now } }

/-- A data movement begins or ends (R174). Whether one can begin while the bus is not `Connected` is not stated (R189 and R192 (d)
speak of probes only); DESIGN CHOICE (log entry 87): it is accepted in every state. -/
def onDataMovement (outstanding : Bool) (s : State) : Result :=
  .next { s with env := { s.env with dataMoving := outstanding } }

/-- BIOS programs the Northbridge's disconnect enables (R172; 70 R467 (2)). -/
def onNbEnables (onHalt onSg : Bool) (s : State) : Result :=
  .next { s with env := { s.env with nbDiscOnHalt := onHalt, nbDiscOnSg := onSg } }

/-- Another bus master accesses memory: with the bus connected, not in ACPI S1 (40 R149), and, while the processor is halted or
stop-granted, after a disconnect only once a probe has been sent: "the Northbridge must reconnect and probe before any other bus
master reads or writes memory the processor may cache" (20_memory.md R93). A machine that does not run holds nothing to probe (log
entry 52). -/
def busMaster (k : State → State) (s : State) : Result :=
  require (!s.running || s.conn == .connected) .busMasterWhileDisconnected <|
  require (!(s.running && s.inS1)) .busMasterInS1 <|
  require (!(s.running && s.pm != .working && s.env.probeDue)) .busMasterWithoutProbe (.next (k s))

/-- It writes a byte. Its address is not masked by A20M#, a pin of this processor (log entry 5). -/
def onBusWrite (a : Addr) (b : Byte) (s : State) : Result :=
  busMaster (fun s => { s with mem := s.mem.write (narrow a) b }) s

/-- It reads a byte: nothing of this processor changes. -/
def onBusRead (_ : Addr) (s : State) : Result := busMaster id s

end Sys2Proof.Machine
end

