-- ==== Sys2Proof/Machine/Thermal.lean ====
section
/-! DEFINITION. Machine/Thermal.lean: the thermal diode (43_electrical_thermal.md R270 to R273) and the thermal-protection
guideline (R274, R275). The diode is passive: it has no effect on processor state. Each equation is a function over any field
whose argument `lnRatio` is the logarithm in it, and a relation over the reals in which that logarithm is the one of the
currents; k/q, for which the source prints no value, is an argument of both. -/

namespace Sys2Proof.Machine.Thermal

/-- Table 13 (R270): sourcing current in µA. -/
def sourcingMin : Rat := 5
def sourcingMax : Rat := 300

/-- Table 13: lumped ideality factor, minimum, nominal, maximum; actual ideality factor; series resistance in Ω. -/
def lumpedMin : Rat := 100000 / 100000
def lumpedNom : Rat := 100374 / 100000
def lumpedMax : Rat := 100900 / 100000
def actualNom : Rat := 100261 / 100000
def seriesOhm : Rat := 93 / 100

/-- A sourcing current, in µA, that Table 13 allows; one within it is in forward bias, as its note asks (R270). -/
def sourcingAllowed (microamps : Rat) : Bool := sourcingMin ≤ microamps && microamps ≤ sourcingMax

/-- A point of operation at which a lumped ideality factor holds: the temperature in °C and the pair of sourcing currents in µA, on
which "the value of the lumped ideality factor depends" (R270). -/
structure OperatingPoint where
  celsius : Rat
  lowMicroamps : Rat
  highMicroamps : Rat
deriving DecidableEq, Repr

/-- Table 13's values of nf,lumped are "characterized at 95°C with a forward bias current pair of 10 µA and 100 µA" (R270). -/
def characterised : OperatingPoint where
  celsius := 95
  lowMicroamps := 10
  highMicroamps := 100

/-- "AMD recommends using a minimum of two sourcing currents" (R270). -/
def recommendedCurrents : Nat := 2

/-- Equation (1), the ideal diode (R271): VBE from the lumped ideality factor, k/q, the absolute temperature and
ln(IC / IS). -/
def diodeVoltage {F : Type} [Field F] (lumped kq t lnRatio : F) : F := lumped * kq * t * lnRatio

/-- Equation (1): `vbe` is the base-to-emitter voltage at the collector current `ic` and saturation current `is`, in one
unit (R271). -/
def IsDiodeVoltage (lumped kq t ic is vbe : ℝ) : Prop := vbe = diodeVoltage lumped kq t (Real.log (ic / is))

/-- Equation (2) (R272): the absolute temperature from the voltages at two sourcing currents, with ln(Ihigh / Ilow). -/
def diodeTemperature {F : Type} [Field F] (vHigh vLow lumped kq lnRatio : F) : F := (vHigh - vLow) / (lumped * kq * lnRatio)

/-- Equation (2): `t` is the temperature the voltages at the sourcing currents `iHigh` and `iLow` give (R272). -/
def IsDiodeTemperature (vHigh vLow lumped kq iHigh iLow t : ℝ) : Prop :=
  t = diodeTemperature vHigh vLow lumped kq (Real.log (iHigh / iLow))

/-- Equation (3) (R273): the lumped ideality factor; currents in ampere, the die temperature in °C. -/
def lumpedIdeality {F : Type} [Field F] (actual rt iHigh iLow kq dieC lnRatio : F) : F :=
  actual + rt * (iHigh - iLow) / (kq * (dieC + 27315 / 100) * lnRatio)

/-- Equation (3): `lumped` is the lumped ideality factor for the sourcing currents `iHigh` and `iLow`, in ampere (R273). -/
def IsLumpedIdeality (actual rt iHigh iLow kq dieC lumped : ℝ) : Prop :=
  lumped = lumpedIdeality actual rt iHigh iLow kq dieC (Real.log (iHigh / iLow))

/-- Equation (3) at a point of operation, from Table 13's actual ideality factor and series resistance: the lumped factor the point's
temperature and current pair give, with ln(Ihigh / Ilow) (R270, R273). -/
def lumpedAt (p : OperatingPoint) (kq lnRatio : Rat) : Rat :=
  lumpedIdeality actualNom seriesOhm (p.highMicroamps / 1000000) (p.lowMicroamps / 1000000) kq p.celsius lnRatio

/-- Equation (3) at a point of operation, with the logarithm of its current pair (R270, R273). -/
def IsLumpedAt (p : OperatingPoint) (kq lumped : ℝ) : Prop :=
  IsLumpedIdeality actualNom seriesOhm (p.highMicroamps / 1000000) (p.lowMicroamps / 1000000) kq p.celsius lumped

/-- Equation (4) (R273): the offset for a sensor without series-resistance cancellation. -/
def offsetPlain {F : Type} [Field F] (dieC lumped sensor : F) : F := (dieC + 27315 / 100) * (1 - lumped / sensor)

/-- Equation (5) (R273): the offset for a sensor with series-resistance cancellation. -/
def offsetCancelling {F : Type} [Field F] (dieC actual sensor : F) : F := (dieC + 27315 / 100) * (1 - actual / sensor)

/-- "The result is added to the value measured by the temperature sensor" (R273). -/
def corrected {F : Type} [Field F] (measured offset : F) : F := measured + offset

/-- Maximum die temperature, °C (R232). -/
def dieMax : Int := 85

/-- A die temperature is one of operation: at most the maximum; no minimum is printed (R232). -/
def inOperation (celsius : Int) : Bool := celsius ≤ dieMax

/-- TSHUTDOWN, °C (R275). -/
def shutdown : Int := 125

/-- The diode "is capable of responding to thermal events of 40°C/s or faster" (R275): the bound is a lower one. -/
def eventRate : Nat := 40

/-- The source says that the diode responds to a thermal event of this rate, in °C per second (R275). -/
def respondsTo (rate : Nat) : Bool := eventRate ≤ rate

end Sys2Proof.Machine.Thermal
end

