-- ==== Sys2Proof/Machine/Supply.lean ====
section
/-! DEFINITION. Machine/Supply.lean: supplies, clocks, PWROK, RESET#, NB_RESET#, the SIP, and the sampling of FID[3:0]
(70_reset_and_hazards.md R450 to R471; 10_state.md R36, R37), with the board's requirements as `require` clauses. -/

namespace Sys2Proof.Machine

/-! ### Supplies and clocks -/

/-- VCC_CORE is applied: the ring oscillator clocks the core (R36). PICCLK runs whenever powered (R471), and the die must not be
hotter than in operation (R468). A level at which nothing is applied is no such event (log entry 82). -/
def onVccCoreOn (mv : Int) (s : State) : Result :=
  require (s.supply == .off && Electrical.applied mv) .noEdge <|
  require (!s.pins.pwrok) .pwrokGlitch <|
  require s.pins.picclk .clockAbsent <|
  require (Electrical.absVccCore.admits mv) (.voltageOutOfRange .vccCore) <|
  require (Thermal.inOperation s.env.dieC) .temperatureOutOfRange <|
  .next { s with supply := .ringOsc, env := { s.env with vccCoreMv := mv } }

/-- VCC_CORE is removed, coming to a level at which it is not applied (43_electrical_thermal.md R276: `S.supply <- Off`); before
the next PWROK the board reports every supply good again (log entry 30). The storage range then binds the die (R241). -/
def removeVccCore (mv : Int) (s : State) : Result :=
  require (Electrical.storage.admits s.env.dieC) .temperatureOutOfRange <|
  .next { s with
    supply := .off
    env := { s.env with vccCoreMv := mv }
    times := { s.times with pwrokAt := none, v33At := none, vccaAt := none } }

/-- VCC_CORE is removed: nothing is left of it. -/
def onPowerOff (s : State) : Result := removeVccCore 0 s

/-- VCC_CORE comes to a level: it is applied, is removed, or changes (R36). -/
def setVccCore (mv : Int) (s : State) : Result :=
  match s.supply == .off, Electrical.applied mv with
  | true,  true  => onVccCoreOn mv s
  | false, false => removeVccCore mv s
  | true,  false => .next { s with env := { s.env with vccCoreMv := mv } }
  | false, true  => .next { s with env := { s.env with vccCoreMv := mv } }

/-- The 3.3 V supply and VCCA come into, and 3.3 V leaves, its specification (R453). What leaving it means while PWROK is asserted
(PWROK "indicates that VCC_CORE and all other voltage planes in the system are within specification", and may not fall) is not stated;
DESIGN CHOICE (log entry 88): accepted, with no consequence before the next PWROK. -/
def onSupply33 (good : Bool) (s : State) : Result :=
  .next { s with times := { s.times with v33At := if good then some s.times.now else none } }
def onVccaGood (s : State) : Result := .next { s with times := { s.times with vccaAt := some s.times.now } }

/-- SYSCLK starts or stops; it must not stop while powered (R470; 40_power_states.md R131). -/
def onSysclk (running : Bool) (s : State) : Result :=
  require (running || s.supply == .off || !s.pins.sysclk) .clockStopped <|
  .next { s with pins := { s.pins with sysclk := running } }

/-- PICCLK starts or stops; it must run whenever powered (R471). -/
def onPicclk (running : Bool) (s : State) : Result :=
  require (running || s.supply == .off || !s.pins.picclk) .clockStopped <|
  .next { s with pins := { s.pins with picclk := running } }

/-- The board chooses the SYSCLK frequency. -/
def choosePeriod (ps : Nat) (t : Times) : Times := { t with period := ps, nominal := ps, lengthening := false, turnedAt := none }

/-- The SYSCLK period varies; a turn is noted. -/
def varyPeriod (ps : Nat) (t : Times) : Times :=
  if Electrical.turns t ps then { t with period := ps, lengthening := !t.lengthening, turnedAt := some t.now }
  else { t with period := ps }

/-- The SYSCLK period changes, within Table 9 (43 R252; 93 U12): while SYSCLK runs to a powered processor (R470), by no more than
the period stability, only within the spread of note 3, and at most at its rate; before that, the board chooses its frequency. -/
def onSysclkPeriod (ps : Nat) (s : State) : Result :=
  require (Electrical.periodAllowed ps) .clockOutOfRange <|
  if s.supply != .off && s.pins.sysclk then
    require (Electrical.periodStable s.times.period ps && Electrical.spreadAllowed s.times.nominal ps
      && Electrical.spreadRateAllowed s.times ps) .clockOutOfRange <|
    .next { s with times := varyPeriod ps s.times }
  else .next { s with times := choosePeriod ps s.times }

/-- A rail comes to a level: VCC_CORE to stay there, with what that makes of the supply (R36); VCCA outside its range is no longer
good (R453). -/
def setRail (r : Rail) (mv : Int) (s : State) : Result :=
  match r with
  | .vccCore => setVccCore mv s
  | .vcca    => .next (if Electrical.vcca.admits mv then s else { s with times := { s.times with vccaAt := none } })
  | .signalPin         => .next s
  | .apicPin           => .next s
  | .fidPullup         => .next s
  | .fidPullupIsolated => .next s
  | .vidPullup         => .next s
  | .fsbSensePullup    => .next s

/-- A rail comes to a level and is there for a duration (43 R236 to R241; 93 U8). -/
def onRail (r : Rail) (mv : Int) (d : Nat) (s : State) : Result :=
  require (Electrical.railAllowed s r mv) (.voltageOutOfRange r) <| andThen (setRail r mv s) (letPass d)

/-- The die temperature: at most 85 °C in operation, the storage range otherwise (43 R232, R241, R276; 93 U8). -/
def onDieTemp (c : Int) (s : State) : Result :=
  require (if s.supply == .off then Electrical.storage.admits c else Thermal.inOperation c)
    .temperatureOutOfRange (.next { s with env := { s.env with dieC := c } })

/-! ### PWROK -/

/-- Requirement 1 (R452): RESET# is asserted, since at least 10 ns. -/
def State.resetBeforePwrok (s : State) : Bool :=
  s.pins.reset && s.rst == .inReset && Timing.since s.times.resetAt Timing.resetBeforePwrok s.times.now

/-- Requirement 2 (R453): 3.3 V good for 3 ms, VCCA for 5 us, VCC_CORE within the tolerance of what VID dictates. -/
def State.suppliesGood (s : State) : Bool :=
  s.supply == .ringOsc
  && Timing.since s.times.v33At Timing.v33ToPwrok s.times.now
  && Timing.since s.times.vccaAt Timing.vccaToPwrok s.times.now
  && Electrical.vccCoreDc.admits s.env.vccCoreMv

/-- PWROK rises (R454): the clock grid switches from the ring oscillator to the PLL. -/
def onPwrokAssert (s : State) : Result :=
  require (!s.pins.pwrok) .noEdge <|
  require s.resetBeforePwrok .pwrokBeforeReset <|
  require s.suppliesGood .supplyLate <|
  require (s.pins.sysclk && s.pins.picclk) .clockAbsent <|
  .next { s with supply := .pll, pins := { s.pins with pwrok := true }, times := { s.times with pwrokAt := some s.times.now } }

/-- PWROK may fall only when power is removed: it must be monotonic (R456). -/
def onPwrokDeassert (s : State) : Result :=
  require s.pins.pwrok .noEdge <|
  require (s.supply == .off) .pwrokGlitch <|
  .next { s with pins := { s.pins with pwrok := false } }

/-! ### RESET#, NB_RESET#, the SIP -/

/-- The x86 state after RESET#: `X86_ISA.reset_state` (R461; 93 U1), with the first fetch of decision D8 (R466). -/
def resetX86 : X86 := { Config.x86ResetState with fetch := startAddress, translating := false }

/-- The effect of `reset_assert` on the state record, in every power and connect state (R461; 40 R145; 10_state.md R62;
92 D10): the machines' bookkeeping is cleared, no special cycle is emitted, `S.out` keeps its history; CLK_Ctl, the
caches and PROCRDY are any value (93 U1). Between `reset_assert` and `S.rst = Run` the spec gives `S.pm` and `S.conn` no value
("Working is not yet true"); DESIGN CHOICE (log entry 70): the fields hold `working` and `connected`, as the representation of
"none"; nothing runs while `S.rst` is not Run. -/
def resetEffect (s : State) : State :=
  { s with
    rst := .inReset, pm := .working, conn := .connected
    discReq := false, wake := false, oweSg := false, sgFromHalt := false
    latched := .empty, intrPending := false, deferred := []
    clkCtl := Config.clkCtlAfterReset s.free
    clockDiv := 1
    x86 := resetX86
    cache := cachesAfterReset s.free
    pins := { s.pins with reset := true, procrdy := Config.procrdyInReset s.free }
    env := { s.env with
      probeOutstanding := false, dataMoving := false, probeDue := false
      nbResetSeen := s.env.nbReset, connectSampled := s.pins.connect }
    times := { s.times with resetAt := some s.times.now, resetPinAt := some s.times.now }
    free := s.free + 1 }

/-- RESET# is asserted: never latched or deferred (60_exceptions.md R409). -/
def onResetAssert (s : State) : Result :=
  require (!s.pins.reset) .noEdge (.next (resetEffect s))

/-- NB_RESET# is asserted or released. Asserted, it makes the Northbridge drive CONNECT asserted (R457), as long as it is asserted
(`onConnectDeassert`); it goes with
RESET# (R462), so asserting it while the machine is not in reset is refused. The sample of CONNECT counts whether or not the
processor is powered (DESIGN CHOICE, log entry 69). -/
def onNbReset (asserted : Bool) (s : State) : Result :=
  if asserted then
    require (s.rst == .inReset) .nbResetLate <|
    .next { s with
      pins := { s.pins with connect := true }
      env := { s.env with nbReset := true, nbResetSeen := true, connectSampled := true } }
  else .next { s with env := { s.env with nbReset := false } }

/-- RESET# is released: not before the PLL has had its time (R455) nor the minimum assertion has passed (R462), and only
after NB_RESET# made CONNECT sampled asserted (R457). The SIP phase begins (R37). -/
def onResetDeassert (s : State) : Result :=
  require s.pins.reset .noEdge <|
  require (s.supply == .pll
      && Timing.since s.times.pwrokAt Timing.pwrokToRelease s.times.now
      && Timing.since s.times.resetAt Timing.resetMin s.times.now) .resetReleasedEarly <|
  require (s.env.nbResetSeen && s.env.connectSampled) .nbResetLate <|
  .next { s with rst := .sip, pins := { s.pins with reset := false } }

/-- `sip_done(cfg)` (R465; 92 D9): the packet is push-pull and matches FID[3:0]; the machine runs, Working and Connected,
with the three protocol pins as in the Connected state (41 R184). -/
def onSipDone (cfg : SipConfig) (s : State) : Result :=
  require (s.supply == .pll && s.rst == .sip) .sipOutOfPhase <|
  require cfg.sysPushPull .sipNotPushPull <|
  require (cfg.forFid == s.part.fid) .sipWrongFid <|
  comeTo { s with
    sip := cfg, rst := .run, pm := .working, conn := .connected
    pins := { s.pins with procrdy := true, connect := true, clkfwdrst := false } }

/-! ### FID[3:0] -/

/-- FID[3:0] is valid: within 100 ns after PWROK and after RESET# (R458, R459), up to the end of the SIP phase. -/
def State.fidValid (s : State) : Bool :=
  s.supply == .pll && s.rst != .run
  && Timing.since s.times.pwrokAt Timing.tValid s.times.now
  && Timing.since s.times.resetAt Timing.tValid s.times.now

/-- The chipset samples FID[3:0]: the part's code while it is valid, any value otherwise (R458, R463; 93 U11). -/
def onSampleFid (s : State) : Result :=
  if s.fidValid then .next { s with env := { s.env with fidSample := some s.part.fid } }
  else .next { s with env := { s.env with fidSample := some (Config.fidNotValid s.free) }, free := s.free + 1 }

/-- The unpowered machine in its socket, from which the cold-reset sequence of R460 starts: only the straps and PICCLK's
and SYSCLK's levels are the board's. Before its first RESET# the spec gives `S.rst` no value; DESIGN CHOICE (log entry 61): it
is `inReset` although RESET# is not asserted, so NB_RESET# may be asserted before or after RESET#. -/
def State.unpowered : State :=
  { State.reset with
    supply := .off, rst := .inReset
    pins := { Pins.atReset with pwrok := false, connect := false, procrdy := false, sysclk := false }
    env := { Env.atReset with nbResetSeen := false, connectSampled := false, vccCoreMv := 0 }
    times := { Times.atReset with resetAt := none, v33At := none, vccaAt := none, pwrokAt := none } }

end Sys2Proof.Machine
end

