-- ==== Sys2Proof/Machine/Events.lean ====
section
/-! DEFINITION. Machine/Events.lean: the asynchronous pins INTR, NMI, SMI#, INIT#, STPCLK#, A20M#, IGNNE# and FLUSH# and the APIC
message as events (10_state.md R33; 60_exceptions.md R400), and the capture rule for them and for RESET#
(70_reset_and_hazards.md R476; 60_exceptions.md R401). -/

namespace Sys2Proof.Machine

/-- The assertion of a pin is noted, at the time it began, whether or not it is captured (70 R476, log entry 41). -/
def noteAssert (p : EventPin) (began : Nat) (s : State) : State :=
  match p with
  | .stpclk => { s with times := { s.times with stpclkAt := some began } }
  | .init   => { s with times := { s.times with initAt := some began } }
  | .smi    => { s with times := { s.times with smiAt := some began } }
  | .nmi    => { s with times := { s.times with nmiAt := some began } }
  | .intr   => { s with times := { s.times with intrAt := some began } }
  | .reset  => { s with times := { s.times with resetPinAt := some began } }
  | .a20m   => { s with times := { s.times with a20mAt := some began } }
  | .ignne  => { s with times := { s.times with ignneAt := some began } }
  | .flush  => s

/-- Set the level of a pin and note when it was asserted. RESET#'s level is set by its own handlers (Machine/Supply.lean), and
FLUSH# has but one level (93 U9). -/
def markPin (p : EventPin) (level : Bool) (s : State) : State :=
  let at' (t : Option Nat) : Option Nat := if level then some s.times.now else t
  match p with
  | .stpclk => { s with pins := { s.pins with stpclk := level }, times := { s.times with stpclkAt := at' s.times.stpclkAt } }
  | .init   => { s with pins := { s.pins with init := level }, times := { s.times with initAt := at' s.times.initAt } }
  | .smi    => { s with pins := { s.pins with smi := level }, times := { s.times with smiAt := at' s.times.smiAt } }
  | .nmi    => { s with pins := { s.pins with nmi := level }, times := { s.times with nmiAt := at' s.times.nmiAt } }
  | .intr   => { s with pins := { s.pins with intr := level }, times := { s.times with intrAt := at' s.times.intrAt } }
  | .a20m   => { s with pins := { s.pins with a20m := level }, times := { s.times with a20mAt := at' s.times.a20mAt } }
  | .ignne  => { s with pins := { s.pins with ignne := level }, times := { s.times with ignneAt := at' s.times.ignneAt } }
  | .reset  => s
  | .flush  => s

/-- A20M# and IGNNE# are levels (45_signals.md R314, R328). -/
def onA20m (level : Bool) (s : State) : Result := .next (markPin .a20m level s)
def onIgnne (level : Bool) (s : State) : Result := .next (markPin .ignne level s)

/-- A pin the board must hold inactive became active: outside the model (45_signals.md R324, R327, R331, R338, R344; 93 U9). -/
def onTieOff (t : TieOff) (_ : State) : Result := .refused (.tieOffViolated t)

/-- INTR, NMI, SMI# or INIT# is asserted and recognised (R33, R402). -/
def onIntr (s : State) : Result := comeTo (onEvent .intr 0 (markPin .intr true s))
def onNmi (s : State) : Result := comeTo (onEvent .nmi 0 (markPin .nmi true s))
def onSmi (s : State) : Result := comeTo (onEvent .smi 0 (markPin .smi true s))
def onInit (s : State) : Result := comeTo (onEvent .init 0 (markPin .init true s))

/-- A local APIC interrupt message arrives (R408). -/
def onApicMsg (m : Opaque) (s : State) : Result := comeTo (onEvent .apic m s)

/-- STPCLK# is asserted. In Working it is recognised at a later boundary (40 R135); in Halt it moves to Stop Grant (40
R139); in Stop Grant and elsewhere it is a level (40 R156). While a probe is being serviced it waits (40 R153, 92 D17). -/
def onStpclkAssert (cause : StpclkCause) (s : State) : Result :=
  let s1 := markPin .stpclk true { s with env := { s.env with stpclkCause := cause } }
  require (!s.pins.stpclk) .noEdge <|
  .next <|
    if s.running then
      if s.servicing then defer (.stpclk true) s1 else stpclkEdge true (leaveProbe s1)
    else s1

/-- STPCLK# is deasserted. In Stop Grant it is a wake-up event (40 R142), refused while the Stop Grant special cycle is
owed (93 U7); in Working there is no transition (40 R156). While a probe is being serviced it waits (40 R153, 92 D17). -/
def onStpclkDeassert (s : State) : Result :=
  let s1 := markPin .stpclk false s
  require s.pins.stpclk .noEdge <|
  if s.running then
    if s.servicing then .next (defer (.stpclk false) s1)
    else
      let s2 := leaveProbe s1
      match s2.pm with
      | .stopGrant => require (!s2.oweSg) .stpclkReleasedEarly (comeTo (stpclkEdge false s2))
      | .working   => .next s2
      | .halt      => .next s2
      | .probe     => .next s2
  else .next s1

/-- A pin is deasserted: a latched event stays (92 D13). -/
def onRelease (p : EventPin) (s : State) : Result :=
  match p with
  | .stpclk => onStpclkDeassert s
  | .init   => .next (markPin .init false s)
  | .smi    => .next (markPin .smi false s)
  | .nmi    => .next (markPin .nmi false s)
  | .intr   => .next (markPin .intr false s)
  | .reset  => onResetDeassert s
  | .a20m   => onA20m false s
  | .ignne  => onIgnne false s
  | .flush  => .next s

/-- A pin is asserted, as an event. -/
def onAssertPin (p : EventPin) (s : State) : Result :=
  match p with
  | .stpclk => onStpclkAssert .throttling s
  | .init   => onInit s
  | .smi    => onSmi s
  | .nmi    => onNmi s
  | .intr   => onIntr s
  | .reset  => onResetAssert s
  | .a20m   => onA20m true s
  | .ignne  => onIgnne true s
  | .flush  => onTieOff .flush s

/-- The level of a pin. -/
def State.level (s : State) : EventPin → Bool
  | .stpclk => s.pins.stpclk
  | .init   => s.pins.init
  | .smi    => s.pins.smi
  | .nmi    => s.pins.nmi
  | .intr   => s.pins.intr
  | .reset  => s.pins.reset
  | .a20m   => s.pins.a20m
  | .ignne  => s.pins.ignne
  | .flush  => false

/-- When a pin was last asserted, captured or not. FLUSH#'s assertions end the run. -/
def State.lastAssert (s : State) : EventPin → Option Nat
  | .stpclk => s.times.stpclkAt
  | .init   => s.times.initAt
  | .smi    => s.times.smiAt
  | .nmi    => s.times.nmiAt
  | .intr   => s.times.intrAt
  | .reset  => s.times.resetPinAt
  | .a20m   => s.times.a20mAt
  | .ignne  => s.times.ignneAt
  | .flush  => none

/-- The capture rule guarantees that an assertion of duration `d` produces its event: at least TBIT long and at least TRPT
after the pin's last assertion (70 R476). The last assertion counts even if it was lost itself (DESIGN CHOICE, log entry 41:
the source does not say). -/
def State.captureSure (s : State) (p : EventPin) (d : Nat) : Bool :=
  Timing.tBit ≤ d && Timing.clearOf (s.lastAssert p) (Timing.trpt s) s.times.now

/-- A captured assertion: TBIT of it (or all of a shorter one), the event (60_exceptions.md R401), the rest, the release. It is one
step. DESIGN CHOICE (log entry 85): no instruction boundary falls into it, so in Working a pulse of STPCLK#, however long, is over
before STPCLK# could be recognised (40 R135 and R489 leave open when it is); the edges as two inputs, with steps between, are the
other case. -/
def seenPulse (p : EventPin) (d : Nat) (s : State) : Result :=
  andThen (letPass (min d Timing.tBit) s) fun t =>
  andThen (onAssertPin p t) fun u =>
  andThen (letPass (d - Timing.tBit) (noteAssert p s.times.now u)) (onRelease p)

/-- A lost assertion: only its time passes, and it is noted. -/
def lostPulse (p : EventPin) (d : Nat) (s : State) : Result := letPass d (noteAssert p s.times.now s)

/-- A raw assertion of `d` picoseconds of a pin that is not asserted: its event for sure, or perhaps (70 R476; 93 U4: any
value). -/
def onPulse (p : EventPin) (d : Nat) (s : State) : Result :=
  require (!s.level p) .noEdge <|
  if s.captureSure p d then seenPulse p d s
  else if Config.capturesAnyway s.free then seenPulse p d { s with free := s.free + 1 }
  else lostPulse p d { s with free := s.free + 1 }

/-- A speculative load of code can bring in only bytes that memory holds where A20M# lets it be addressed (20_memory.md R91), or
that the processor holds already. -/
def State.codeFrom (s : State) (code : Memory) : Memory :=
  code.filter fun c =>
    (visible s.pins.a20m s.mem).read c.1 == some c.2 || s.cache.code.read c.1 == some c.2

/-- Speculative loads (70 R482; 10_state.md R58, R59; 20_memory.md R97): while instructions execute, the caches, TLBs and
prefetcher may come to hold anything at any time; no write is implied. In Halt, Stop Grant and Probe they keep what they
hold (R57; 60_exceptions.md R429). -/
def onSpeculate (c : Caches) (s : State) : Result :=
  .next (if s.running && s.pm == .working then { s with cache := { c with code := s.codeFrom c.code }.fit } else s)

end Sys2Proof.Machine
end

