-- ==== Sys2Proof/Machine/Own.lean ====
section
/-! DEFINITION. Machine/Own.lean: the processor's own step (10_state.md R33 `step`; 40_power_states.md R132; 41 R185
conditions 3 and 4) and the one place every input goes through. -/

namespace Sys2Proof.Machine

/-- `X86_ISA.step` on bytes that are none of the four instructions (R132; 30_encoding.md R114, R115). -/
def runForeign (s : State) : Result :=
  match Config.x86Step s.x86 (busView s) with
  | .runs e      => .next (applyEffect e s)
  | .undecodable => .refused .undecodable

/-- What was decoded is run: one of the four instructions, or `X86_ISA`. -/
def runDecoded (d : Decoded) (s : State) : Result :=
  match d with
  | .ours i _        => exec i s
  | .foreignOpcode _ => runForeign s
  | .foreignEscape _ => runForeign s
  | .tooShort        => runForeign s

/-- One `X86_ISA.step` in Working (R132): fetch one byte, and a second one when the first does not settle the instruction
(30_encoding.md R113); decode; run. -/
def runInstruction (s : State) : Result :=
  fetchThen 0 (fun b s =>
    match decode [b] with
    | .tooShort => fetchThen 1 (fun c s => runDecoded (decode [b, c]) s) s
    | d         => runDecoded d s) s

/-- An instruction boundary in Working: an INTR that stayed pending is taken as soon as `X86_ISA` masks it no longer (40 R142, 60
R403; log entry 23); else one instruction. -/
def atBoundary (s : State) : Result := if s.intrDue then .next (deliver .intr 0 s) else runInstruction s

/-- An asserted STPCLK# that can be recognised: at an instruction boundary in Working (40 R135), or in Halt (40 R139: "If
STPCLK# is asserted, the processor will exit the Halt state", log entry 16). -/
def State.stpclkPending (s : State) : Bool :=
  s.running && s.pins.stpclk && ((s.pm == .working && s.conn == .connected) || s.pm == .halt)

/-- Recognise STPCLK# (40 R135, R139). -/
def recogniseStpclk (s : State) : State :=
  match s.pm with
  | .working   => enterStopGrant s
  | .halt      => stopGrantFromHalt s
  | .stopGrant => s
  | .probe     => s

/-- What the processor does by itself while STPCLK# is not being recognised: PROCRDY's edges (41 R185 conditions 3 and
4), an instruction, or a pending INTR, in Working with the bus connected (R132, R142), else it waits (93 U15). -/
def ownWork (s : State) : Result :=
  if s.running then
    match s.conn with
    | .disconnectPending => .next (dropProcrdy s)
    | .disconnected      => .next (if s.wake then raiseProcrdy s else s)
    | .connected         => if s.pm == .working then atBoundary s else .next s
    | .connectPending1   => .next s
    | .connectPending2   => .next s
  else .next s

/-- The processor's own step. How many instructions pass before an asserted STPCLK# is recognised is not stated (R135):
`recognise` says whether this is the boundary. -/
def ownStep (recognise : Bool) (s : State) : Result :=
  if recognise && s.stpclkPending then .next (recogniseStpclk s) else ownWork s

/-- With no input left the processor goes on by itself; whether an asserted STPCLK# is recognised now is a free value. -/
def ownStepFree (s : State) : Result :=
  if s.stpclkPending then ownStep (Config.recognisesStpclk s.free) { s with free := s.free + 1 } else ownWork s

/-- Every input, one handler each. -/
def onInput (i : Input) (s : State) : Result :=
  match i with
  | .step r           => ownStep r s
  | .stpclkAssert c   => onStpclkAssert c s
  | .stpclkDeassert   => onStpclkDeassert s
  | .intr             => onIntr s
  | .nmi              => onNmi s
  | .smi              => onSmi s
  | .init             => onInit s
  | .apicMsg m        => onApicMsg m s
  | .release p        => onRelease p s
  | .pulse p d        => onPulse p d s
  | .vector v         => .next { s with env := { s.env with vector := v } }
  | .resetAssert      => onResetAssert s
  | .resetDeassert    => onResetDeassert s
  | .nbReset b        => onNbReset b s
  | .pwrokAssert      => onPwrokAssert s
  | .pwrokDeassert    => onPwrokDeassert s
  | .sampleFid        => onSampleFid s
  | .sipDone cfg      => onSipDone cfg s
  | .connectDeassert  => onConnectDeassert s
  | .connectAssert    => onConnectAssert s
  | .clkfwdrstAssert  => onClkfwdrstAssert s
  | .clkfwdrstDeassert => onClkfwdrstDeassert s
  | .fwdclkStart      => onFwdclkStart s
  | .probe p          => onProbe p s
  | .probeDone        => onProbeDone s
  | .command          => onCommand s
  | .dataMovement b   => onDataMovement b s
  | .nbEnables h g    => onNbEnables h g s
  | .busWrite a b     => onBusWrite a b s
  | .busRead a        => onBusRead a s
  | .a20m b           => onA20m b s
  | .ignne b          => onIgnne b s
  | .tieOff t         => onTieOff t s
  | .sysclk b         => onSysclk b s
  | .sysclkPeriod ps  => onSysclkPeriod ps s
  | .picclk b         => onPicclk b s
  | .supply33Good     => onSupply33 true s
  | .supply33Lost     => onSupply33 false s
  | .vccaGood         => onVccaGood s
  | .vccCoreOn mv     => onVccCoreOn mv s
  | .powerOff         => onPowerOff s
  | .rail r mv d      => onRail r mv d s
  | .dieTemp c        => onDieTemp c s
  | .elapse ps        => letPass ps s
  | .speculate c      => onSpeculate c s

end Sys2Proof.Machine
end

