-- ==== Sys2Proof/Machine/Step.lean ====
section
/-! DEFINITION. Machine/Step.lean: one step of the machine, and where the host places an instruction. -/

namespace Sys2Proof.Machine

/-- One step: the next input of the schedule if there is one, else the processor's own step. -/
def step (s : State) : Host.Outcome State Fault Refusal :=
  match s.inputs with
  | []      => ownStepFree s
  | i :: is => onInput i { s with inputs := is }

/-- The state with an instruction (its table word `w` of `nbits` bits, the rest zero) stored where the next step fetches
it: the bytes at the fetch address, taken from memory and untranslated, no input before it, and the conditions under which an
instruction executes (40_power_states.md R132). From the state after reset only memory changes. -/
def State.withFetchWord (s : State) (nbits w : Nat) : State :=
  let b := wordBytes nbits w
  { s with
    mem := (s.mem.write (phys s.pins.a20m s.x86.fetch) (b.getD 0 0#8)).write
      (phys s.pins.a20m (s.x86.fetch + 1#64)) (b.getD 1 0#8)
    x86 := { s.x86 with translating := false }
    cache := { s.cache with code := [] }
    supply := .pll, rst := .run, pm := .working, conn := .connected
    pins := { s.pins with stpclk := false }
    intrPending := false
    inputs := [] }

end Sys2Proof.Machine
end

