-- ==== Sys2Proof/Machine/Bus.lean ====
section
/-! DEFINITION. Machine/Bus.lean: the data channel's beats, layout and rate (20_memory.md R81 to R88) and the processor's fixed
figures (00_scope.md R9; those of the caches are in Machine/Cache.lean). No rule of the power or connect machine depends on
them. -/

namespace Sys2Proof.Machine.Bus

/-- The addressing granule: eight bytes, each separately enabled (R84). -/
def granuleBytes : Nat := 8

/-- The granule a byte lies in (R84). -/
def granule (a : Nat) : Nat := a / granuleBytes * granuleBytes

/-- A data beat of the bus (R84): an eight-byte-aligned quadword, by its number, any set of byte enables, and the data. Bit `k`
of the enables is the byte at the quadword's address plus `k`. -/
structure Beat where
  quadword : Nat
  enables  : BitVec 8
  data     : BitVec 64
deriving DecidableEq, Repr

/-- The address of the beat's quadword: aligned, whatever its number. -/
def Beat.address (b : Beat) : Nat := b.quadword * granuleBytes

/-- Byte `k` of the data (R80). -/
def Beat.byte (b : Beat) (k : Nat) : Byte := b.data.extractLsb' (8 * k) 8

/-- Write the enabled bytes among the first `n`. -/
def Beat.writeFirst (b : Beat) (m : Memory) : Nat → Memory
  | 0     => m
  | k + 1 =>
    if b.enables.getLsbD k then (b.writeFirst m k).write (b.address + k) (b.byte k) else b.writeFirst m k

/-- Transfer a beat to memory: each enabled byte, and no other (R84). -/
def Beat.write (b : Beat) (m : Memory) : Memory := b.writeFirst m granuleBytes

/-- Transfer a beat from memory: the enabled bytes; the others are not transferred (R84). -/
def readBeat (m : Memory) (quadword : Nat) (enables : BitVec 8) (k : Fin 8) : Option Byte :=
  if enables.getLsbD k.val then m.read (quadword * granuleBytes + k.val) else none

/-- The byte-enable mask, within the granule at `g`, of an access of `n` bytes at `a`: bit `k` is byte `g + k` (R84). -/
def byteEnables (g a n : Nat) : BitVec 8 :=
  BitVec.ofFnLE fun k : Fin 8 => decide (a ≤ g + k.val) && decide (g + k.val < a + n)

/-- The beat that carries, for the quadword `q`, its part of a write of the `n`-byte value `v` at `a`. -/
def beatOf (q a n v : Nat) : Beat :=
  let g := q * granuleBytes
  ⟨q, byteEnables g a n, BitVec.ofNat 64 (if a ≤ g then v >>> (8 * (g - a)) else v <<< (8 * (a - g)))⟩

/-- The beats of a write of the `n`-byte value `v` at `a`. R86 states no more than that one beat can carry an access within one
quadword; DESIGN CHOICE (log entry 76): a write is one beat for each quadword it touches (R84), in the order of the quadwords. -/
def beatsOf (a n v : Nat) : List Beat :=
  if n = 0 then []
  else (List.range ((a + n - 1) / granuleBytes - a / granuleBytes + 1)).map fun i => beatOf (a / granuleBytes + i) a n v

/-- An access lies within one aligned quadword: one bus beat can carry it (R86). -/
def oneBeat (a n : Nat) : Bool := n = 0 || granule a == granule (a + n - 1)

/-- The byte address whose bits data-bus bit `i` carries, for the aligned quadword at `g` (R81). -/
def byteOfBusBit (g : Nat) (i : Fin 64) : Nat := g + i.val / 8

/-- Bit `i` of the data bus for an aligned quadword (R81): bit `i` of the quadword, little-endian. -/
def busBit (m : Memory) (g : Nat) (i : Fin 64) : Option Bool :=
  (m.read (byteOfBusBit g i)).map fun b => b.getLsbD (i.val % 8)

/-- The wire level of an active-Low signal: Low (false) is asserted (00_scope.md R11 (a); R81). -/
def wireHigh (activeLow asserted : Bool) : Bool := activeLow != asserted

/-- Channel widths (R87; 90_conflicts.md C1): signals [14:2] of each address and command channel, 64 data signals. -/
def channelBits : Nat := 13
def dataBits : Nat := 64
/-- Whether an address/command signal is supported: [1:0] are not (45_signals.md R333). -/
def channelSupported (bit : Fin 15) : Bool := 2 ≤ bit.val

/-- Forwarded clocks of the data channel, each way (R87). -/
def dataClocks : Nat := 4

/-- Transfers per second of the bus at a SYSCLK period in picoseconds: twice SYSCLK (R88). -/
def transfersPerSecond (period : Nat) : Nat := Timing.transfersPerPeriod * 1000000000000 / period

/-- Bytes per second (R88): eight bytes a transfer. -/
def bytesPerSecond (period : Nat) : Nat := transfersPerSecond period * (dataBits / 8)

/-- The earliest moment CONNECT may fall after a command, and forwarded clocks start after CLKFWDRST, in picoseconds
(41_connect_protocol.md R191; 95 K7). -/
def disconnectWait (period : Nat) : Nat := Timing.disconnectWaitPeriods * period
def forwardClockDelay (period : Nat) : Nat := Timing.forwardClockPeriods * period

/-- The process, 0.13 micron, in nanometres (00_scope.md R9). -/
def processNm : Nat := 130

/-- Pipelines and widths of 00_scope.md R9. -/
def integerPipelines : Nat := 3
def addressPipelines : Nat := 3
def fpWays : Nat := 3
def issueWidth : Nat := 9
def peakSinglesPerClock : Nat := 4

/-- Processors on one system bus: point-to-point (10_state.md R30; 60_exceptions.md R427). -/
def processorsPerBus : Nat := 1

end Sys2Proof.Machine.Bus
end

