-- ==== Sys2Proof/Machine/Flags.lean ====
section
/-! DEFINITION. Machine/Flags.lean: the flag computations of the spec. It states no condition flag (10_state.md R52) and no
flag written by any of the four instructions (42_instructions.md R210 to R218); what it does state is the numeric-error
output FERR and the bit NE it does not depend on (60_exceptions.md R412; 10_state.md R48). -/

namespace Sys2Proof.Machine

/-- FERR: asserted exactly while `X86_ISA` reports an unmasked numerical exception pending, whatever CR0.NE is and
whatever the power state is (R412; 95 X9). Active High, push-pull (45_signals.md R325). -/
def State.ferr (s : State) : Bool := s.x86.numericPending

/-- CR0.NE, bit 5 (93 G5); no rule reads it (R48). -/
def X86.ne (x : X86) : Bool := x.cr0.getLsbD 5

/-- The active-Low FERR# the board makes by inverting FERR (R412; 45_signals.md R325): its wire level. -/
def State.boardFerrHigh (s : State) : Bool := !s.ferr

end Sys2Proof.Machine
end

