-- ==== Sys2Proof/Machine/Package.lean ====
section
/-! DEFINITION. Machine/Package.lean: mechanical data and the ordering part number (44_mechanical_ordering.md). Nothing here
affects the behaviour of the processor. Lengths are in micrometres. -/

namespace Sys2Proof.Machine.Package

/-- Where a load is applied (R292). -/
inductive LoadPlace where
  | dieSurface
  | dieEdge
deriving DecidableEq, Repr

/-- Table 16: dynamic and static maximum in pounds-force (R292; 90_conflicts.md C13). -/
def loadMax : LoadPlace → Nat × Nat
  | .dieSurface => (100, 30)
  | .dieEdge    => (10, 10)

/-- The largest angle of inclination, in degrees, of the surface a die-edge load is defined for (R292). -/
def edgeLoadAngle : Nat := 2

/-- The contact Table 16's notes define a load for, by the angle in degrees between the loading surface and the die surface:
coplanar for the die surface, at most two degrees for the die edge (R292). -/
def contactDefined (p : LoadPlace) (inclination : Rat) : Bool :=
  match p with
  | .dieSurface => inclination == 0
  | .dieEdge    => 0 ≤ inclination && inclination ≤ edgeLoadAngle

/-- A load in pounds-force, by a surface at an angle in degrees to the die surface, is within Table 16: in the contact its note
defines, and at most its maximum (R292). -/
def loadAllowed (p : LoadPlace) (dynamic : Bool) (inclination : Rat) (lbf : Nat) : Bool :=
  contactDefined p inclination && lbf ≤ (if dynamic then (loadMax p).1 else (loadMax p).2)

/-- The symbols of Table 17 (R293). -/
inductive Dim where
  | dE | d1E1 | d2 | d3 | d4 | d5 | d6 | d7 | d8 | d9
  | e2 | e3 | e4 | e5 | e6 | e7 | e8 | e9
  | gH | a | a1 | a2 | a3 | a4
  | phiP | phiB | phiB1 | s | l | e | e1
deriving DecidableEq, Repr

/-- A row of Table 17, in micrometres: limits, or one basic or reference value. -/
inductive DimValue where
  | range (min max : Option Nat)
  | basic (v : Nat)
  | reference (v : Nat)
deriving DecidableEq, Repr

/-- Table 17 (R293). What most letters measure was in the lost Figure 13. -/
def dim : Dim → DimValue
  | .dE    => .range (some 49270) (some 49780)
  | .d1E1  => .basic 45720
  | .d2    => .reference 7420
  | .d3    => .range (some 3300) (some 3600)
  | .d4    => .range (some 10780) (some 11330)
  | .d5    => .range (some 10780) (some 11330)
  | .d6    => .range (some 8130) (some 8680)
  | .d7    => .range (some 12330) (some 12880)
  | .d8    => .range (some 3050) (some 3350)
  | .d9    => .range (some 12710) (some 13260)
  | .e2    => .reference 13610
  | .e3    => .range (some 2350) (some 2650)
  | .e4    => .range (some 7870) (some 8420)
  | .e5    => .range (some 7870) (some 8420)
  | .e6    => .range (some 11410) (some 11960)
  | .e7    => .range (some 11410) (some 11960)
  | .e8    => .range (some 13280) (some 13830)
  | .e9    => .range (some 1660) (some 1960)
  | .gH    => .range none (some 4500)
  | .a     => .reference 1942
  | .a1    => .range (some 1000) (some 1200)
  | .a2    => .range (some 800) (some 880)
  | .a3    => .range (some 116) none
  | .a4    => .range none (some 1900)
  | .phiP  => .range none (some 6600)
  | .phiB  => .range (some 430) (some 500)
  | .phiB1 => .reference 1400
  | .s     => .range (some 1435) (some 2375)
  | .l     => .range (some 3050) (some 3310)
  | .e     => .basic 1270
  | .e1    => .basic 2540

/-- Table 17: rows and columns of the grid (M), number of pins (N), mass in grams times ten (R293). -/
def gridSide : Nat := 37
def tablePinCount : Nat := 453
def massDecigrams : Nat := 110

/-! ### Ordering part number (R296, R297) -/

/-- Position 1, architecture segment: AXD (R296; 95 W4). -/
inductive Segment where
  /-- "AMD Athlon XP Processor Model 10 with QuantiSpeed Architecture for Desktop Products". -/
  | desktopAthlonXpModel10
deriving DecidableEq, Repr

/-- Position 2, maximum power: A (R296). -/
inductive PowerClass where
  /-- "Desktop Processor". -/
  | desktop
deriving DecidableEq, Repr

/-- Position 4, package type: D (R296). -/
inductive PackageType where
  | opga
deriving DecidableEq, Repr

/-- The fields of the OPN that have more than one value in this source: the model number. Every other field has the
one value R296 gives: AXD, A, D, K, V, 4, D. -/
structure Opn where
  model : Part
deriving DecidableEq, Repr

/-- The characters of positions 1, 2 and 4 (R296). -/
def Segment.chars : Segment → List Char
  | .desktopAthlonXpModel10 => ['A', 'X', 'D']
def PowerClass.char : PowerClass → Char
  | .desktop => 'A'
def PackageType.char : PackageType → Char
  | .opga => 'D'

/-- The four characters of the model number. -/
def modelChars : Part → List Char
  | .xp2500 => ['2', '5', '0', '0']
  | .xp2800 => ['2', '8', '0', '0']
  | .xp3000 => ['3', '0', '0', '0']

/-- The part number as characters (R296): architecture segment, power, model, package, voltage, die temperature, L2 size,
front-side bus. -/
def Opn.render (o : Opn) : List Char :=
  Segment.desktopAthlonXpModel10.chars ++ [PowerClass.desktop.char] ++ modelChars o.model ++ [PackageType.opga.char]
    ++ ['K', 'V', '4', 'D']

/-- What a part number stands for (R296, R297): segment, power class, package, VCC_CORE_NOM in mV, die maximum in °C, L2 in
Kbytes, bus rate in millions of transfers a second, SYSCLK in hundredths of a MHz (166.67), core frequency in MHz. -/
structure Product where
  part    : Part
  segment : Segment
  power   : PowerClass
  package : PackageType
  coreMv  : Nat
  dieMaxC : Nat
  l2Kb    : Nat
  fsbMt   : Nat
  sysclkCentiMHz : Nat
  coreMHz : Nat
deriving DecidableEq, Repr

/-- The product of a part. -/
def product (p : Part) : Product where
  part := p
  segment := .desktopAthlonXpModel10
  power := .desktop
  package := .opga
  coreMv := 1650
  dieMaxC := 85
  l2Kb := 512
  fsbMt := 333
  sysclkCentiMHz := 16667
  coreMHz := p.coreMHz

/-- `decodeOPN` (R297): other letters are not defined by the source. -/
def decodeOpn (cs : List Char) : Option Product :=
  ([Part.xp2500, .xp2800, .xp3000].find? fun p => Opn.render ⟨p⟩ == cs).map product

end Sys2Proof.Machine.Package
end

