-- ==== Sys2Proof/Machine/PinMap.lean ====
section
/-! DEFINITION. Machine/PinMap.lean: the pin map of the Socket A grid (46_pin_map.md), Table 19 reconciled (R381, R390), the
signal groups of Table 2 (43_electrical_thermal.md R235) and the abbreviations of Table 18 (R387 to R389). It has no
effect on behaviour (46_pin_map.md, opening). -/

namespace Sys2Proof.Machine

/-- Every name of Table 19 (45_signals.md R313; 46_pin_map.md R383 to R390); a name of an active-Low signal drops its
"#", the second of a differential pair ends in N. -/
inductive Signal where
  | vccCore
  | vss
  | nc
  | key
  | noPin
  | amdPin
  | sdata (bit : Fin 64)
  | saddin (bit : Fin 15)
  | saddout (bit : Fin 15)
  | vid (bit : Fin 5)
  | sdatainclk (bit : Fin 4)
  | sdataoutclk (bit : Fin 4)
  | fid (bit : Fin 4)
  | picd (bit : Fin 2)
  | fsbSense (bit : Fin 2)
  | a20m
  | analog
  | clkfwdrst
  | clkin
  | clkinN
  | connect
  | corefb
  | corefbN
  | cpuPresence
  | dbrdy
  | dbreq
  | ferr
  | flush
  | ignne
  | init
  | intr
  | k7clkout
  | k7clkoutN
  | nmi
  | picclk
  | pllbypass
  | pllbypassclk
  | pllbypassclkN
  | pllmon1
  | pllmon2
  | plltest
  | procrdy
  | pwrok
  | reset
  | rstclk
  | rstclkN
  | saddinclk
  | saddoutclk
  | scanclk1
  | scanclk2
  | scaninteval
  | scanshiften
  | sdatainvalid
  | sdataoutvalid
  | sfillvalid
  | smi
  | stpclk
  | tck
  | tdi
  | tdo
  | thermda
  | thermdc
  | tms
  | trst
  | vcca
  | vrefsys
  | zn
  | zp
deriving DecidableEq, Repr

/-- Table 19's L column: push-pull or open-drain (45_signals.md R312). -/
inductive PinLevel where
  | p
  | o
deriving DecidableEq, Repr

/-- Table 19's P column: input, output, bidirectional (R312). -/
inductive PinPort where
  | i
  | o
  | b
deriving DecidableEq, Repr

/-- Table 19's R column: referenced to VSS or to VCC_CORE (R312). -/
inductive PinRef where
  | g
  | p
deriving DecidableEq, Repr

/-- The 37 rows, top to bottom, the letters I and O not used (R380). -/
inductive GridRow where
  | a | b | c | d | e | f | g | h | j | k | l | m | n | p | q | r | s | t | u | v | w | x | y | z | aa | ab | ac | ad | ae | af | ag | ah | aj | ak | al | am | an
deriving DecidableEq, Repr

/-- The rows in order (R380). -/
def GridRow.all : List GridRow :=
  [.a, .b, .c, .d, .e, .f, .g, .h, .j, .k, .l, .m, .n, .p, .q, .r, .s, .t, .u,
   .v, .w, .x, .y, .z, .aa, .ab, .ac, .ad, .ae, .af, .ag, .ah, .aj, .ak, .al, .am, .an]

/-- One position of the grid: its column, its signal, and the columns L, P, R; a "-" is none. -/
structure PinInfo where
  col    : Nat
  signal : Signal
  level  : Option PinLevel
  port   : Option PinPort
  ref    : Option PinRef
deriving DecidableEq, Repr

/-- A position with "-" in the columns L, P and R. -/
def plainPin (col : Nat) (signal : Signal) : PinInfo := ⟨col, signal, none, none, none⟩

/-- Table 19, reconciled, one row of the grid at a time (R390). -/
def pinRow : GridRow → List PinInfo
  | .a =>
    [plainPin 1 .noPin, ⟨3, (.saddout 12), some .p, some .o, some .g⟩, ⟨5, (.saddout 5), some .p, some .o, some .g⟩,
     ⟨7, (.saddout 3), some .p, some .o, some .g⟩, ⟨9, (.sdata 55), some .p, some .b, some .p⟩,
     ⟨11, (.sdata 61), some .p, some .b, some .p⟩, ⟨13, (.sdata 53), some .p, some .b, some .g⟩,
     ⟨15, (.sdata 63), some .p, some .b, some .g⟩, ⟨17, (.sdata 62), some .p, some .b, some .g⟩, plainPin 19 .nc,
     ⟨21, (.sdata 57), some .p, some .b, some .g⟩, ⟨23, (.sdata 39), some .p, some .b, some .g⟩,
     ⟨25, (.sdata 35), some .p, some .b, some .p⟩, ⟨27, (.sdata 34), some .p, some .b, some .p⟩,
     ⟨29, (.sdata 44), some .p, some .b, some .g⟩, plainPin 31 .nc,
     ⟨33, (.sdataoutclk 2), some .p, some .o, some .p⟩, ⟨35, (.sdata 40), some .p, some .b, some .g⟩,
     ⟨37, (.sdata 30), some .p, some .b, some .p⟩]
  | .b =>
    [plainPin 2 .vss, plainPin 4 .vccCore, plainPin 6 .vss, plainPin 8 .vccCore, plainPin 10 .vss,
     plainPin 12 .vccCore, plainPin 14 .vss, plainPin 16 .vccCore, plainPin 18 .vss, plainPin 20 .vccCore,
     plainPin 22 .vss, plainPin 24 .vccCore, plainPin 26 .vss, plainPin 28 .vccCore, plainPin 30 .vss,
     plainPin 32 .vccCore, plainPin 34 .vss, plainPin 36 .vccCore]
  | .c =>
    [⟨1, (.saddout 7), some .p, some .o, some .g⟩, ⟨3, (.saddout 9), some .p, some .o, some .g⟩,
     ⟨5, (.saddout 8), some .p, some .o, some .g⟩, ⟨7, (.saddout 2), some .p, some .o, some .g⟩,
     ⟨9, (.sdata 54), some .p, some .b, some .p⟩, ⟨11, (.sdataoutclk 3), some .p, some .o, some .g⟩, plainPin 13 .nc,
     ⟨15, (.sdata 51), some .p, some .b, some .p⟩, ⟨17, (.sdata 60), some .p, some .b, some .g⟩,
     ⟨19, (.sdata 59), some .p, some .b, some .g⟩, ⟨21, (.sdata 56), some .p, some .b, some .g⟩,
     ⟨23, (.sdata 37), some .p, some .b, some .p⟩, ⟨25, (.sdata 47), some .p, some .b, some .g⟩,
     ⟨27, (.sdata 38), some .p, some .b, some .g⟩, ⟨29, (.sdata 45), some .p, some .b, some .g⟩,
     ⟨31, (.sdata 43), some .p, some .b, some .g⟩, ⟨33, (.sdata 42), some .p, some .b, some .g⟩,
     ⟨35, (.sdata 41), some .p, some .b, some .g⟩, ⟨37, (.sdataoutclk 1), some .p, some .o, some .g⟩]
  | .d =>
    [plainPin 2 .vccCore, plainPin 4 .vccCore, plainPin 6 .vss, plainPin 8 .vccCore, plainPin 10 .vss,
     plainPin 12 .vccCore, plainPin 14 .vss, plainPin 16 .vccCore, plainPin 18 .vss, plainPin 20 .vccCore,
     plainPin 22 .vss, plainPin 24 .vccCore, plainPin 26 .vss, plainPin 28 .vccCore, plainPin 30 .vss,
     plainPin 32 .vccCore, plainPin 34 .vss, plainPin 36 .vss]
  | .e =>
    [⟨1, (.saddout 11), some .p, some .o, some .p⟩, ⟨3, .saddoutclk, some .p, some .o, some .g⟩,
     ⟨5, (.saddout 4), some .p, some .o, some .p⟩, ⟨7, (.saddout 6), some .p, some .o, some .g⟩,
     ⟨9, (.sdata 52), some .p, some .b, some .p⟩, ⟨11, (.sdata 50), some .p, some .b, some .p⟩,
     ⟨13, (.sdata 49), some .p, some .b, some .g⟩, ⟨15, (.sdatainclk 3), some .p, some .i, some .g⟩,
     ⟨17, (.sdata 48), some .p, some .b, some .p⟩, ⟨19, (.sdata 58), some .p, some .b, some .g⟩,
     ⟨21, (.sdata 36), some .p, some .b, some .p⟩, ⟨23, (.sdata 46), some .p, some .b, some .p⟩, plainPin 25 .nc,
     ⟨27, (.sdatainclk 2), some .p, some .i, some .g⟩, ⟨29, (.sdata 33), some .p, some .b, some .p⟩,
     ⟨31, (.sdata 32), some .p, some .b, some .p⟩, plainPin 33 .nc, ⟨35, (.sdata 31), some .p, some .b, some .p⟩,
     ⟨37, (.sdata 22), some .p, some .b, some .g⟩]
  | .f =>
    [plainPin 2 .vss, plainPin 4 .vss, plainPin 6 .vss, plainPin 8 .nc, plainPin 10 .vss, plainPin 12 .vccCore,
     plainPin 14 .vss, plainPin 16 .vccCore, plainPin 18 .vss, plainPin 20 .vccCore, plainPin 22 .vss,
     plainPin 24 .vccCore, plainPin 26 .vss, plainPin 28 .vccCore, plainPin 30 .nc, plainPin 32 .vccCore,
     plainPin 34 .vccCore, plainPin 36 .vccCore]
  | .g =>
    [⟨1, (.saddout 10), some .p, some .o, some .p⟩, ⟨3, (.saddout 14), some .p, some .o, some .g⟩,
     ⟨5, (.saddout 13), some .p, some .o, some .g⟩, plainPin 7 .key, plainPin 9 .key, plainPin 11 .nc,
     plainPin 13 .nc, plainPin 15 .key, plainPin 17 .key, plainPin 19 .nc, plainPin 21 .nc, plainPin 23 .key,
     plainPin 25 .key, plainPin 27 .nc, plainPin 29 .nc, plainPin 31 .nc,
     ⟨33, (.sdata 20), some .p, some .b, some .g⟩, ⟨35, (.sdata 23), some .p, some .b, some .g⟩,
     ⟨37, (.sdata 21), some .p, some .b, some .g⟩]
  | .h =>
    [plainPin 2 .vccCore, plainPin 4 .vccCore, plainPin 6 .nc, plainPin 8 .nc, plainPin 10 .nc, plainPin 12 .vccCore,
     plainPin 14 .vss, plainPin 16 .vccCore, plainPin 18 .vss, plainPin 20 .vccCore, plainPin 22 .vss,
     plainPin 24 .vccCore, plainPin 26 .vss, plainPin 28 .nc, plainPin 30 .nc, plainPin 32 .nc, plainPin 34 .vss,
     plainPin 36 .vss]
  | .j =>
    [⟨1, (.saddout 0), some .p, some .o, none⟩, ⟨3, (.saddout 1), some .p, some .o, none⟩, plainPin 5 .nc,
     ⟨7, (.vid 4), some .o, some .o, none⟩, plainPin 31 .nc, ⟨33, (.sdata 19), some .p, some .b, some .g⟩,
     ⟨35, (.sdatainclk 1), some .p, some .i, some .p⟩, ⟨37, (.sdata 29), some .p, some .b, some .p⟩]
  | .k =>
    [plainPin 2 .vss, plainPin 4 .vss, plainPin 6 .vss, plainPin 8 .nc, plainPin 30 .nc, plainPin 32 .vccCore,
     plainPin 34 .vccCore, plainPin 36 .vccCore]
  | .l =>
    [⟨1, (.vid 0), some .o, some .o, none⟩, ⟨3, (.vid 1), some .o, some .o, none⟩,
     ⟨5, (.vid 2), some .o, some .o, none⟩, ⟨7, (.vid 3), some .o, some .o, none⟩, plainPin 31 .nc,
     ⟨33, (.sdata 26), some .p, some .b, some .p⟩, plainPin 35 .nc, ⟨37, (.sdata 28), some .p, some .b, some .p⟩]
  | .m =>
    [plainPin 2 .vccCore, plainPin 4 .vccCore, plainPin 6 .vccCore, plainPin 8 .vccCore, plainPin 30 .vss,
     plainPin 32 .vss, plainPin 34 .vss, plainPin 36 .vss]
  | .n =>
    [⟨1, .picclk, some .o, some .i, none⟩, ⟨3, (.picd 0), some .o, some .b, none⟩,
     ⟨5, (.picd 1), some .o, some .b, none⟩, plainPin 7 .key, plainPin 31 .nc,
     ⟨33, (.sdata 25), some .p, some .b, some .p⟩, ⟨35, (.sdata 27), some .p, some .b, some .p⟩,
     ⟨37, (.sdata 18), some .p, some .b, some .g⟩]
  | .p =>
    [plainPin 2 .vss, plainPin 4 .vss, plainPin 6 .vss, plainPin 8 .vss, plainPin 30 .vccCore, plainPin 32 .vccCore,
     plainPin 34 .vccCore, plainPin 36 .vccCore]
  | .q =>
    [⟨1, .tck, some .p, some .i, none⟩, ⟨3, .tms, some .p, some .i, none⟩, ⟨5, .scanshiften, some .p, some .i, none⟩,
     plainPin 7 .key, plainPin 31 .nc, ⟨33, (.sdata 24), some .p, some .b, some .p⟩,
     ⟨35, (.sdata 17), some .p, some .b, some .g⟩, ⟨37, (.sdata 16), some .p, some .b, some .g⟩]
  | .r =>
    [plainPin 2 .vccCore, plainPin 4 .vccCore, plainPin 6 .vccCore, plainPin 8 .vccCore, plainPin 30 .vss,
     plainPin 32 .vss, plainPin 34 .vss, plainPin 36 .vss]
  | .s =>
    [⟨1, .scanclk1, some .p, some .i, none⟩, ⟨3, .scaninteval, some .p, some .i, none⟩,
     ⟨5, .scanclk2, some .p, some .i, none⟩, plainPin 7 .thermda, plainPin 31 .nc,
     ⟨33, (.sdata 7), some .p, some .b, some .g⟩, ⟨35, (.sdata 15), some .p, some .b, some .p⟩,
     ⟨37, (.sdata 6), some .p, some .b, some .g⟩]
  | .t =>
    [plainPin 2 .vss, plainPin 4 .vss, plainPin 6 .vss, plainPin 8 .vss, plainPin 30 .vccCore, plainPin 32 .vccCore,
     plainPin 34 .vccCore, plainPin 36 .vccCore]
  | .u =>
    [⟨1, .tdi, some .p, some .i, none⟩, ⟨3, .trst, some .p, some .i, none⟩, ⟨5, .tdo, some .p, some .o, none⟩,
     plainPin 7 .thermdc, plainPin 31 .nc, ⟨33, (.sdata 5), some .p, some .b, some .g⟩,
     ⟨35, (.sdata 4), some .p, some .b, some .g⟩, plainPin 37 .nc]
  | .v =>
    [plainPin 2 .vccCore, plainPin 4 .vccCore, plainPin 6 .vccCore, plainPin 8 .vccCore, plainPin 30 .vss,
     plainPin 32 .vss, plainPin 34 .vss, plainPin 36 .vss]
  | .w =>
    [⟨1, (.fid 0), some .o, some .o, none⟩, ⟨3, (.fid 1), some .o, some .o, none⟩,
     ⟨5, .vrefsys, some .p, none, none⟩, plainPin 7 .nc, plainPin 31 .nc,
     ⟨33, (.sdatainclk 0), some .p, some .i, some .g⟩, ⟨35, (.sdata 2), some .p, some .b, some .g⟩,
     ⟨37, (.sdata 1), some .p, some .b, some .p⟩]
  | .x =>
    [plainPin 2 .vss, plainPin 4 .vss, plainPin 6 .vss, plainPin 8 .vss, plainPin 30 .vccCore, plainPin 32 .vccCore,
     plainPin 34 .vccCore, plainPin 36 .vccCore]
  | .y =>
    [⟨1, (.fid 2), some .o, some .o, none⟩, ⟨3, (.fid 3), some .o, some .o, none⟩, plainPin 5 .nc, plainPin 7 .key,
     plainPin 31 .nc, plainPin 33 .nc, ⟨35, (.sdata 3), some .p, some .b, some .g⟩,
     ⟨37, (.sdata 12), some .p, some .b, some .p⟩]
  | .z =>
    [plainPin 2 .vccCore, plainPin 4 .vccCore, plainPin 6 .vccCore, plainPin 8 .vccCore, plainPin 30 .vss,
     plainPin 32 .vss, plainPin 34 .vss, plainPin 36 .vss]
  | .aa =>
    [⟨1, .dbrdy, some .p, some .o, none⟩, ⟨3, .dbreq, some .p, some .i, none⟩, plainPin 5 .nc, plainPin 7 .key,
     plainPin 31 .nc, ⟨33, (.sdata 8), some .p, some .b, some .p⟩, ⟨35, (.sdata 0), some .p, some .b, some .g⟩,
     ⟨37, (.sdata 13), some .p, some .b, some .g⟩]
  | .ab =>
    [plainPin 2 .vss, plainPin 4 .vss, plainPin 6 .vss, plainPin 8 .vss, plainPin 30 .vccCore, plainPin 32 .vccCore,
     plainPin 34 .vccCore, plainPin 36 .vccCore]
  | .ac =>
    [⟨1, .stpclk, some .p, some .i, none⟩, ⟨3, .plltest, some .p, some .i, none⟩, ⟨5, .zn, some .p, none, none⟩,
     plainPin 7 .nc, plainPin 31 .nc, ⟨33, (.sdata 10), some .p, some .b, some .p⟩,
     ⟨35, (.sdata 14), some .p, some .b, some .g⟩, ⟨37, (.sdata 11), some .p, some .b, some .g⟩]
  | .ad =>
    [plainPin 2 .vccCore, plainPin 4 .vccCore, plainPin 6 .vccCore, plainPin 8 .nc, plainPin 30 .nc,
     plainPin 32 .vss, plainPin 34 .vss, plainPin 36 .vss]
  | .ae =>
    [⟨1, .a20m, some .p, some .i, none⟩, ⟨3, .pwrok, some .p, some .i, none⟩, ⟨5, .zp, some .p, none, none⟩,
     plainPin 7 .nc, plainPin 31 .nc, ⟨33, (.saddin 5), some .p, some .i, some .g⟩,
     ⟨35, (.sdataoutclk 0), some .p, some .o, some .p⟩, ⟨37, (.sdata 9), some .p, some .b, some .g⟩]
  | .af =>
    [plainPin 2 .vss, plainPin 4 .vss, plainPin 6 .nc, plainPin 8 .nc, plainPin 10 .nc, plainPin 12 .vss,
     plainPin 14 .vccCore, plainPin 16 .vss, plainPin 18 .vccCore, plainPin 20 .vss, plainPin 22 .vccCore,
     plainPin 24 .vss, plainPin 26 .vccCore, plainPin 28 .nc, plainPin 30 .nc, plainPin 32 .nc, plainPin 34 .vccCore,
     plainPin 36 .vccCore]
  | .ag =>
    [⟨1, .ferr, some .p, some .o, none⟩, ⟨3, .reset, none, some .i, none⟩, plainPin 5 .nc, plainPin 7 .key,
     plainPin 9 .key, plainPin 11 .corefb, plainPin 13 .corefbN, plainPin 15 .key, plainPin 17 .key, plainPin 19 .nc,
     plainPin 21 .nc, plainPin 23 .nc, plainPin 25 .nc, plainPin 27 .key, plainPin 29 .key,
     ⟨31, (.fsbSense 0), none, some .o, some .g⟩, ⟨33, (.saddin 2), some .p, some .i, some .g⟩,
     ⟨35, (.saddin 11), some .p, some .i, some .g⟩, ⟨37, (.saddin 7), some .p, some .i, some .p⟩]
  | .ah =>
    [plainPin 2 .vccCore, plainPin 4 .vccCore, plainPin 6 .amdPin, plainPin 8 .nc, plainPin 10 .vccCore,
     plainPin 12 .vss, plainPin 14 .vccCore, plainPin 16 .vss, plainPin 18 .vccCore, plainPin 20 .vss,
     plainPin 22 .vccCore, plainPin 24 .vss, plainPin 26 .vccCore, plainPin 28 .vss,
     ⟨30, (.fsbSense 1), none, some .o, some .g⟩, plainPin 32 .vss, plainPin 34 .vss, plainPin 36 .vss]
  | .aj =>
    [⟨1, .ignne, some .p, some .i, none⟩, ⟨3, .init, some .p, some .i, none⟩, plainPin 5 .vccCore, plainPin 7 .nc,
     plainPin 9 .nc, plainPin 11 .nc, plainPin 13 .analog, plainPin 15 .nc, plainPin 17 .nc, plainPin 19 .nc,
     ⟨21, .clkfwdrst, some .p, some .i, some .p⟩, plainPin 23 .vcca, ⟨25, .pllbypass, some .p, some .i, none⟩,
     plainPin 27 .nc, ⟨29, (.saddin 0), some .p, some .i, none⟩, ⟨31, .sfillvalid, some .p, some .i, some .g⟩,
     ⟨33, .saddinclk, some .p, some .i, some .g⟩, ⟨35, (.saddin 6), some .p, some .i, some .p⟩,
     ⟨37, (.saddin 3), some .p, some .i, some .g⟩]
  | .ak =>
    [plainPin 2 .vss, plainPin 4 .vss, plainPin 6 .cpuPresence, plainPin 8 .nc, plainPin 10 .vccCore,
     plainPin 12 .vss, plainPin 14 .vccCore, plainPin 16 .vss, plainPin 18 .vccCore, plainPin 20 .vss,
     plainPin 22 .vccCore, plainPin 24 .vss, plainPin 26 .vccCore, plainPin 28 .vss, plainPin 30 .vccCore,
     plainPin 32 .vss, plainPin 34 .vccCore, plainPin 36 .vccCore]
  | .al =>
    [⟨1, .intr, some .p, some .i, none⟩, ⟨3, .flush, some .p, some .i, none⟩, plainPin 5 .vccCore, plainPin 7 .nc,
     plainPin 9 .nc, plainPin 11 .nc, ⟨13, .pllmon2, some .o, some .o, none⟩,
     ⟨15, .pllbypassclkN, some .p, some .i, none⟩, ⟨17, .clkinN, some .p, some .i, some .p⟩,
     ⟨19, .rstclkN, some .p, some .i, some .p⟩, ⟨21, .k7clkout, some .p, some .o, none⟩,
     ⟨23, .connect, some .p, some .i, some .p⟩, plainPin 25 .nc, plainPin 27 .nc,
     ⟨29, (.saddin 1), some .p, some .i, none⟩, ⟨31, .sdataoutvalid, some .p, some .o, some .p⟩,
     ⟨33, (.saddin 8), some .p, some .i, some .p⟩, ⟨35, (.saddin 4), some .p, some .i, some .g⟩,
     ⟨37, (.saddin 10), some .p, some .i, some .g⟩]
  | .am =>
    [plainPin 2 .vccCore, plainPin 4 .vss, plainPin 6 .vss, plainPin 8 .nc, plainPin 10 .vccCore, plainPin 12 .vss,
     plainPin 14 .vccCore, plainPin 16 .vss, plainPin 18 .vccCore, plainPin 20 .vss, plainPin 22 .vccCore,
     plainPin 24 .vss, plainPin 26 .vccCore, plainPin 28 .vss, plainPin 30 .vccCore, plainPin 32 .vss,
     plainPin 34 .vccCore, plainPin 36 .vss]
  | .an =>
    [plainPin 1 .noPin, ⟨3, .nmi, some .p, some .i, none⟩, ⟨5, .smi, some .p, some .i, none⟩, plainPin 7 .nc,
     plainPin 9 .nc, plainPin 11 .nc, ⟨13, .pllmon1, some .o, some .b, none⟩,
     ⟨15, .pllbypassclk, some .p, some .i, none⟩, ⟨17, .clkin, some .p, some .i, some .p⟩,
     ⟨19, .rstclk, some .p, some .i, some .p⟩, ⟨21, .k7clkoutN, some .p, some .o, none⟩,
     ⟨23, .procrdy, some .p, some .o, some .p⟩, plainPin 25 .nc, plainPin 27 .nc,
     ⟨29, (.saddin 12), some .p, some .i, some .g⟩, ⟨31, (.saddin 14), some .p, some .i, some .g⟩,
     ⟨33, .sdatainvalid, some .p, some .i, some .p⟩, ⟨35, (.saddin 13), some .p, some .i, some .g⟩,
     ⟨37, (.saddin 9), some .p, some .i, some .g⟩]

/-- A position: a row and what stands there. -/
structure PinAt where
  row  : GridRow
  info : PinInfo
deriving DecidableEq, Repr

/-- All positions in the order of the source: row letter, then column (R390). -/
def pinMap : List PinAt := GridRow.all.flatMap fun row => (pinRow row).map (PinAt.mk row)

/-- The positions of a signal. -/
def pinsOf (g : Signal) : List (GridRow × Nat) :=
  (pinMap.filter fun p => p.info.signal == g).map fun p => (p.row, p.info.col)

/-- What stands at a position, if it is one (R380: the grid is staggered and its centre empty). -/
def pinAt (row : GridRow) (col : Nat) : Option PinInfo := (pinRow row).find? fun p => p.col == col

/-- A position without a pin: the two orientation positions and the AMD pin (R386; 44_mechanical_ordering.md R294). -/
def Signal.unpinned : Signal → Bool
  | .noPin  => true
  | .amdPin => true
  | _       => false

/-- The signal groups of Table 2 (43_electrical_thermal.md R235). -/
inductive SignalGroup where
  | power | frequency | systemClocks | systemBus | southbridge | jtag | test | miscellaneous | apic | thermal
deriving DecidableEq, Repr

/-- The group of a signal, none for the signals Table 2 does not list (R235, 45_signals.md R313). -/
def Signal.group : Signal → Option SignalGroup
  | .vid _ | .vcca | .vccCore | .corefb | .corefbN => some .power
  | .fid _ => some .frequency
  | .clkin | .clkinN | .rstclk | .rstclkN | .pllbypassclk | .pllbypassclkN => some .systemClocks
  | .saddin b => if 2 ≤ b.val then some .systemBus else none
  | .saddout b => if 2 ≤ b.val then some .systemBus else none
  | .sdata _ | .sdatainclk _ | .sdataoutclk _ => some .systemBus
  | .saddinclk | .saddoutclk | .sfillvalid | .sdatainvalid | .sdataoutvalid => some .systemBus
  | .clkfwdrst | .procrdy | .connect => some .systemBus
  | .reset | .intr | .nmi | .smi | .init | .a20m | .ferr | .ignne | .stpclk | .flush => some .southbridge
  | .tms | .tck | .trst | .tdi | .tdo => some .jtag
  | .pllbypass | .plltest | .pllmon1 | .pllmon2 => some .test
  | .scanclk1 | .scanclk2 | .scanshiften | .scaninteval | .analog => some .test
  | .dbreq | .dbrdy | .pwrok => some .miscellaneous
  | .picd _ | .picclk => some .apic
  | .thermda | .thermdc => some .thermal
  | .k7clkout | .k7clkoutN | .cpuPresence | .fsbSense _ | .vrefsys | .zn | .zp => none
  | .vss | .nc | .key | .noPin | .amdPin => none

/-- How the board must terminate a pin (45_signals.md R367, with the rules it collects). -/
inductive Termination where
  | pullUpVccCore
  /-- A pull-up to VCC_CORE, and routed to the debug connector (R331). -/
  | pullUpVccCoreDebug
  | pullDown
  /-- 100 Ω to VCC_CORE and 100 Ω to VSS (R332). -/
  | splitResistors
  /-- To VCC if the Northbridge does not support the bit (R333, SADDIN[1]#). -/
  | pullUpVccIfUnsupported
  /-- To VCC if the Northbridge supports the pins (R333, SADDOUT[1:0]#). -/
  | pullUpVccIfSupported
  /-- To at most so many millivolts (R356, R346). -/
  | pullUp (maxMv : Nat)
  /-- To at most so many millivolts, unless electrically isolated from the processor (R341). -/
  | pullUpUnlessIsolated (maxMv : Nat)
  /-- The board may pull it up (R323). -/
  | optionalPullUp
  /-- A resistor of the line impedance to VCC_CORE (ZN) or to VSS (ZP) (R366). -/
  | impedanceToVccCore
  | impedanceToVss
  | unconnected
  | clock
deriving DecidableEq, Repr

/-- The static terminations the source requires (R367). -/
def Signal.termination : Signal → Option Termination
  | .dbreq | .flush => some .pullUpVccCore
  | .tdi | .tck | .tms | .trst => some .pullUpVccCoreDebug
  | .plltest | .pllbypass | .pllmon1 | .pllmon2 => some .pullUpVccCore
  | .scanshiften | .scanclk1 | .scaninteval | .scanclk2 => some .pullDown
  | .k7clkout | .k7clkoutN => some .splitResistors
  | .saddin b => if b.val = 1 then some .pullUpVccIfUnsupported else none
  | .saddout b => if b.val < 2 then some .pullUpVccIfSupported else none
  | .fid _ => some (.pullUpUnlessIsolated 2500)
  | .vid _ => some (.pullUp 5250)
  | .fsbSense _ => some (.pullUp 3300)
  | .cpuPresence => some .optionalPullUp
  | .zn => some .impedanceToVccCore
  | .zp => some .impedanceToVss
  | .analog | .nc | .key => some .unconnected
  | .picclk | .clkin | .clkinN | .rstclk | .rstclkN => some .clock
  | _ => none

/-- Whether the board must make the connection, by whether the Northbridge supports the signal (R333). -/
def Termination.required (nbSupports : Bool) : Termination → Bool
  | .pullUpVccIfUnsupported => !nbSupports
  | .pullUpVccIfSupported   => nbSupports
  | .optionalPullUp         => false
  | _                       => true

/-- The abbreviations of Table 18, used in Figure 14, for the address and command channels and the named pins (R387,
R389); the data channel follows below. -/
def pinAbbreviations : List (Signal × String) :=
  ([(.analog, "ANLOG"), (.clkfwdrst, "CLKFR"), (.connect, "CNNCT"), (.cpuPresence, "CPR#"), ((.fsbSense 0), "FSB0"),
   ((.fsbSense 1), "FSB1"), (.k7clkout, "K7CO"), (.k7clkoutN, "K7CO#"), ((.picd 0), "CD#0"), ((.picd 1), "CD#1"),
   (.pllbypass, "BYP#"), (.pllbypassclk, "BYC"), (.pllbypassclkN, "BYC#"), (.pllmon1, "MN1"), (.pllmon2, "MN2"),
   (.plltest, "TST#"), (.procrdy, "CRDY"), (.rstclk, "LK"), (.rstclkN, "LK#"), (.scanclk1, "SCNCK1"),
   (.scanclk2, "SCNCK2"), (.scaninteval, "SCNINV"), (.scanshiften, "SCNSN"), (.stpclk, "STPC#"), (.thermda, "THDA"),
   (.thermdc, "THDC"), (.vrefsys, "EF_S"), ((.saddin 14), "I#14"), ((.saddout 14), "SAO#14"), ((.saddin 13), "I#13"),
   ((.saddout 13), "SAO#13"), ((.saddin 12), "I#12"), ((.saddout 12), "SAO#12"), ((.saddin 11), "I#11"),
   ((.saddout 11), "SAO#11"), ((.saddin 10), "I#10"), ((.saddout 10), "SAO#10"), ((.saddin 9), "I#9"),
   ((.saddout 9), "SAO#9"), ((.saddin 8), "I#8")] : List (Signal × String)) ++
  ([((.saddout 8), "O#8"), ((.saddin 7), "I#7"), ((.saddout 7), "O#7"), ((.saddin 6), "I#6"), ((.saddout 6), "O#6"),
   ((.saddin 5), "I#5"), ((.saddout 5), "O#5"), ((.saddin 4), "I#4"), ((.saddout 4), "O#4"), ((.saddin 3), "I#3"),
   ((.saddout 3), "O#3"), ((.saddin 2), "I#2"), ((.saddout 2), "O#2"), ((.saddin 1), "I#1"), ((.saddout 1), "O#1"),
   ((.saddin 0), "I#0"), ((.saddout 0), "O#0"), (.saddinclk, "IC#"), (.saddoutclk, "SAOC#"),
   ((.sdatainclk 0), "IC#0"), ((.sdatainclk 1), "IC#1"), ((.sdatainclk 2), "IC#2"), ((.sdatainclk 3), "SDIC#3"),
   ((.sdataoutclk 0), "SDOC#0"), ((.sdataoutclk 1), "SDOC#1"), ((.sdataoutclk 2), "SDOC#2"),
   ((.sdataoutclk 3), "SDOC#3"), (.sdatainvalid, "SDINV#"), (.sdataoutvalid, "SDOV#"), (.sfillvalid, "SFILLV#")] :
   List (Signal × String))

/-- The abbreviations of SDATA[63:0]# (R388). -/
def dataAbbreviations : List (Signal × String) :=
  ([((.sdata 0), "SD#0"), ((.sdata 16), "SD#16"), ((.sdata 32), "#32"), ((.sdata 48), "#48"), ((.sdata 1), "SD#1"),
   ((.sdata 17), "SD#17"), ((.sdata 33), "#33"), ((.sdata 49), "#49"), ((.sdata 2), "SD#2"), ((.sdata 18), "SD#18"),
   ((.sdata 34), "#34"), ((.sdata 50), "#50"), ((.sdata 3), "SD#3"), ((.sdata 19), "SD#19"), ((.sdata 35), "#35"),
   ((.sdata 51), "#51"), ((.sdata 4), "SD#4"), ((.sdata 20), "SD#20"), ((.sdata 36), "#36"), ((.sdata 52), "#52"),
   ((.sdata 5), "SD#5"), ((.sdata 21), "SD#21"), ((.sdata 37), "#37"), ((.sdata 53), "#53"), ((.sdata 6), "SD#6"),
   ((.sdata 22), "SD#22"), ((.sdata 38), "#38"), ((.sdata 54), "#54"), ((.sdata 7), "SD#7"), ((.sdata 23), "SD#23"),
   ((.sdata 39), "#39"), ((.sdata 55), "#55"), ((.sdata 8), "SD#8"), ((.sdata 24), "SD#24"), ((.sdata 40), "#40"),
   ((.sdata 56), "#56"), ((.sdata 9), "SD#9"), ((.sdata 25), "SD#25"), ((.sdata 41), "#41"), ((.sdata 57), "#57")] : List (Signal × String)) ++
  ([((.sdata 10), "SD#10"), ((.sdata 26), "SD#26"), ((.sdata 42), "#42"), ((.sdata 58), "#58"),
   ((.sdata 11), "SD#11"), ((.sdata 27), "SD#27"), ((.sdata 43), "#43"), ((.sdata 59), "#59"),
   ((.sdata 12), "SD#12"), ((.sdata 28), "#28"), ((.sdata 44), "#44"), ((.sdata 60), "#60"), ((.sdata 13), "SD#13"),
   ((.sdata 29), "#29"), ((.sdata 45), "#45"), ((.sdata 61), "#61"), ((.sdata 14), "SD#14"), ((.sdata 30), "#30"),
   ((.sdata 46), "#46"), ((.sdata 62), "#62"), ((.sdata 15), "SD#15"), ((.sdata 31), "#31"), ((.sdata 47), "#47"),
   ((.sdata 63), "#63")] : List (Signal × String))

/-- The page of the source Table 19 refers to in its Description column (R389). -/
def pinPages : List (Signal × Nat) :=
  ([(.amdPin, 65), (.analog, 65), (.clkfwdrst, 65), (.clkin, 65), (.clkinN, 65), (.connect, 66), (.corefb, 66),
   (.corefbN, 66), (.cpuPresence, 66), (.dbrdy, 66), (.dbreq, 66), (.ferr, 66), ((.fid 0), 67), ((.fid 1), 67),
   ((.fid 2), 67), ((.fid 3), 67), (.flush, 68), ((.fsbSense 0), 68), ((.fsbSense 1), 68), (.ignne, 68), (.init, 68),
   (.intr, 68), (.k7clkout, 69), (.k7clkoutN, 69), (.picclk, 65), ((.picd 0), 65), ((.picd 1), 65), (.pllbypass, 69),
   (.pllbypassclk, 69), (.pllbypassclkN, 69), (.pllmon1, 69), (.pllmon2, 69), (.plltest, 69), (.rstclk, 65),
   (.rstclkN, 65), (.scanclk1, 70), (.scanclk2, 70), (.scaninteval, 70), (.scanshiften, 70), (.stpclk, 70)] : List (Signal × Nat)) ++
  ([(.tck, 69), (.tdi, 69), (.tdo, 69), (.thermda, 70), (.thermdc, 70), (.tms, 69), (.trst, 69), (.vcca, 70),
   ((.vid 0), 70), ((.vid 1), 70), ((.vid 2), 70), ((.vid 3), 70), ((.vid 4), 70), (.vrefsys, 71), (.zn, 71),
   (.zp, 71)] : List (Signal × Nat))

end Sys2Proof.Machine
end

