-- ==== Sys2Proof/Machine/Signals.lean ====
section
/-! DEFINITION. Machine/Signals.lean: polarity (45_signals.md R310; 00_scope.md R11 (a)) and the use the model makes of every
named signal (R313's last column), the electrical table of every pin (43_electrical_thermal.md R235), the strap pins, and the wire
levels of the pins whose logical level the state holds or the package fixes. -/

namespace Sys2Proof.Machine

/-- A signal whose name carries "#" is active Low (R310); of a differential pair the second wire carries it. -/
def Signal.activeLow : Signal → Bool
  | .a20m | .cpuPresence | .dbreq | .flush | .ignne | .init => true
  | .picd _ | .pllbypass | .plltest | .reset => true
  | .saddin _ | .saddout _ | .saddinclk | .saddoutclk => true
  | .sdata _ | .sdatainclk _ | .sdataoutclk _ | .sdatainvalid | .sdataoutvalid | .sfillvalid => true
  | .smi | .stpclk | .trst => true
  | .clkinN | .corefbN | .k7clkoutN | .pllbypassclkN | .rstclkN => true
  | .clkin | .corefb | .k7clkout | .pllbypassclk | .rstclk => false
  | .vccCore | .vss | .nc | .key | .noPin | .amdPin | .vid _ | .fid _ | .fsbSense _ => false
  | .analog | .clkfwdrst | .connect | .dbrdy | .ferr | .intr | .nmi | .picclk | .pllmon1 | .pllmon2 => false
  | .procrdy | .pwrok | .scanclk1 | .scanclk2 | .scaninteval | .scanshiften | .tck | .tdi | .tdo | .tms => false
  | .thermda | .thermdc | .vcca | .vrefsys | .zn | .zp => false

/-- How the state machine of 10_state.md uses a signal (R313's column "Model"). -/
inductive SignalUse where
  | event
  | level
  | output
  | strap
  /-- Both a level and an event: INTR. -/
  | levelEvent
  /-- Both output and input, data: SDATA[63:0]#. -/
  | outputInput
  | none
deriving DecidableEq, Repr

/-- The column "Model" of R313. A position without a named signal has no use. -/
def Signal.use : Signal → SignalUse
  | .intr => .levelEvent
  | .sdata _ => .outputInput
  | .clkfwdrst | .connect | .init | .nmi | .picd _ | .pwrok | .reset | .smi | .stpclk => .event
  | .saddin b => if 2 ≤ b.val then .event else .none
  | .a20m | .clkin | .clkinN | .ignne | .picclk | .rstclk | .rstclkN | .vcca | .vccCore => .level
  | .ferr | .procrdy => .output
  | .saddout b => if 2 ≤ b.val then .output else .none
  | .cpuPresence | .dbreq | .fid _ | .flush | .fsbSense _ | .pllbypass | .pllmon1 | .pllmon2 | .plltest => .strap
  | .scanclk1 | .scanclk2 | .scaninteval | .scanshiften | .tck | .tms | .tdi | .trst | .vid _ | .zn | .zp => .strap
  | .analog | .corefb | .corefbN | .dbrdy | .k7clkout | .k7clkoutN | .pllbypassclk | .pllbypassclkN => .none
  | .saddinclk | .saddoutclk | .sdatainclk _ | .sdatainvalid | .sdataoutclk _ | .sdataoutvalid | .sfillvalid => .none
  | .tdo | .thermda | .thermdc | .vrefsys | .vss | .nc | .key | .noPin | .amdPin => .none

/-! ### The electrical table that applies to a pin (43_electrical_thermal.md R235) -/

/-- The electrical tables of 43_electrical_thermal.md, by what they are about. -/
inductive ElectricalTable where
  /-- VID[4:0] (R236). -/
  | vid
  /-- FID[3:0] (R237). -/
  | fid
  /-- VCCA (R238). -/
  | vcca
  /-- VCC_CORE (R240). -/
  | vccCore
  /-- System clocks, DC (R250) and AC (R252). -/
  | clockDc
  | clockAc
  /-- The system bus's threshold voltage: VREF and its leakage (R260; 45_signals.md R360). -/
  | busVref
  /-- System bus, DC (the rest of R260), forwarded clocks and data (R261), PROCRDY, CONNECT and CLKFWDRST (R262). -/
  | busDc
  | busForwarded
  | busSync
  /-- General pins (R264 to R266). -/
  | general
  /-- APIC pins (R268). -/
  | apic
  /-- The thermal diode (R270). -/
  | diode
deriving DecidableEq, Repr

/-- The third column of R235's table. -/
def SignalGroup.tables : SignalGroup → List ElectricalTable
  | .power         => [.vid, .vcca, .vccCore]
  | .frequency     => [.fid]
  | .systemClocks  => [.clockDc, .clockAc]
  | .systemBus     => [.busDc, .busForwarded, .busSync]
  | .southbridge   => [.general]
  | .jtag          => [.general]
  | .test          => [.general]
  | .miscellaneous => [.general]
  | .apic          => [.apic]
  | .thermal       => [.diode]

/-- Of its group's tables, the ones whose subject the signal is: VID, VCCA and VCC_CORE have one each (R236, R238, R240), and so
do PROCRDY, CONNECT and CLKFWDRST among the bus signals (R262; the slew rates of R261 are those of all bus signals). -/
def Signal.isSubject (g : Signal) (t : ElectricalTable) : Bool :=
  match t, g with
  | .vid, .vid _ => true
  | .vid, _ => false
  | .vcca, .vcca => true
  | .vcca, _ => false
  | .vccCore, .vccCore | .vccCore, .corefb | .vccCore, .corefbN => true
  | .vccCore, _ => false
  | .busSync, .procrdy | .busSync, .connect | .busSync, .clkfwdrst => true
  | .busSync, _ => false
  | .busForwarded, .procrdy | .busForwarded, .connect | .busForwarded, .clkfwdrst => false
  | _, _ => true

/-- "The electrical table that applies to each pin is chosen by its group" (R235); of the pins of no group, VREFSYS has a table: it
"is the VREF of 43_electrical_thermal.md rule R260" (45_signals.md R360). -/
def Signal.tables (g : Signal) : List ElectricalTable :=
  match g with
  | .vrefsys => [.busVref]
  | _        => ((g.group.map SignalGroup.tables).getD []).filter g.isSubject

/-- The column P of Table 19 (45_signals.md R312), none where it is "-". -/
def Signal.port (g : Signal) : Option PinPort := (pinMap.find? fun p => p.info.signal == g).bind fun p => p.info.port

/-- The pin receives, drives (R312). -/
def Signal.isInput (g : Signal) : Bool := g.port == some .i || g.port == some .b
def Signal.isOutput (g : Signal) : Bool := g.port == some .o || g.port == some .b

/-- The pin drives in open-drain mode (Table 19's column L, R312): one that TVALID, "for any open-drain pins", is about
(43_electrical_thermal.md R266; "open-drain outputs", 70_reset_and_hazards.md R472). PICCLK, an input with the level O, drives nothing
and has no such time (DEDUCED, log entry 86). -/
def Signal.drivesOpenDrain (g : Signal) : Bool :=
  g.isOutput && ((pinMap.find? fun p => p.info.signal == g).bind fun p => p.info.level) == some .o

/-- The clocks of the clock-forwarded groups (R261). -/
def Signal.isForwardClock : Signal → Bool
  | .saddinclk | .saddoutclk | .sdatainclk _ | .sdataoutclk _ => true
  | _ => false

/-- Rows that apply to some pins of their table. -/
def rowsIf (c : Bool) (rows : List (String × Limit)) : List (String × Limit) := if c then rows else []

/-- R266's row TVALID, for the pins it is about. -/
def Signal.validRows (g : Signal) : List (String × Limit) := rowsIf g.drivesOpenDrain [("TVALID", Electrical.tValid)]

/-- The rows of a table that apply to a signal, at a core voltage and a bus reference in mV and a core frequency in MHz. Of Table
11's forwarded-clock rows, which name what they are about and have no column for it, the skew is an output's, setup and hold are a
data input's, the two capacitances are the clocks' (R261; DEDUCED, log entry 86); the sync rows have the column "Applies to"
(R262). Of the general timing rows (R265, R266; 70_reset_and_hazards.md R472) TSU, THD, TBIT and TRPT are an input's, TDELAY is an
output's, and TVALID is every open-drain output's, whichever its table. -/
def ElectricalTable.rows (g : Signal) (vccCoreMv vrefMv : Int) (coreMHz : Nat) : ElectricalTable → List (String × Limit)
  | .vid     => [("IOL", Electrical.vidIol), ("VOH", Electrical.vidVoh)] ++ g.validRows
  | .fid     => [("IOL", Electrical.fidIol), ("VOH", Electrical.fidVoh)] ++ g.validRows
  | .vcca    => [("VVCCA", Electrical.vcca), ("IVCCA", Electrical.ivcca coreMHz)]
  | .vccCore =>
    [("DC", Electrical.vccCoreDc), ("AC", Electrical.vccCoreAc), ("tMAX_AC", Electrical.vccCoreMaxAcTime),
     ("tMIN_AC", Electrical.vccCoreMinAcTime)]
  | .clockDc =>
    [("VThreshold-DC", Electrical.sysclkThresholdDc), ("VThreshold-AC", Electrical.sysclkThresholdAc),
     ("ILEAK_P", Electrical.sysclkLeakP), ("ILEAK_N", Electrical.sysclkLeakN),
     ("VCROSS", Electrical.sysclkCross vccCoreMv), ("CPIN", Electrical.sysclkCapacitance)]
  | .clockAc =>
    [("Frequency", Electrical.sysclkMHz), ("Duty", Electrical.sysclkDuty), ("Period", Electrical.sysclkPeriod),
     ("High", Electrical.sysclkHigh), ("Low", Electrical.sysclkLow), ("Fall", Electrical.sysclkFall),
     ("Rise", Electrical.sysclkRise), ("Stability", Electrical.sysclkStability)]
  | .busVref =>
    [("VREF", Electrical.busVref vccCoreMv), ("IVREF_LEAK_P", Electrical.busVrefLeakP),
     ("IVREF_LEAK_N", Electrical.busVrefLeakN)]
  | .busDc =>
    [("VIH", Electrical.busVih vrefMv vccCoreMv), ("VIL", Electrical.busVil vrefMv), ("ILEAK_P", Electrical.busLeakP),
     ("ILEAK_N", Electrical.busLeakN), ("CIN", Electrical.busCapacitance), ("RON", Electrical.busRon),
     ("RsetP", Electrical.busRsetP), ("RsetN", Electrical.busRsetN)]
  | .busForwarded =>
    [("Rise", Electrical.fwdRise), ("Fall", Electrical.fwdFall)]
    ++ rowsIf g.isOutput [("Skew", Electrical.fwdSkewDiffEdge)]
    ++ rowsIf (g.isInput && !g.isForwardClock) [("Setup", Electrical.fwdSetup), ("Hold", Electrical.fwdHold)]
    ++ rowsIf (g.isInput && g.isForwardClock) [("CIN", Electrical.fwdCin)]
    ++ rowsIf (g.isOutput && g.isForwardClock) [("COUT", Electrical.fwdCout)]
  | .busSync =>
    [("Rise", Electrical.fwdRise), ("Fall", Electrical.fwdFall)]
    ++ rowsIf (g == .procrdy) [("TVAL", Electrical.syncProcrdyValid)]
    ++ rowsIf (g == .connect || g == .clkfwdrst) [("TSU", Electrical.syncSetup), ("THD", Electrical.syncHold)]
  | .general =>
    [("VIH", Electrical.genVih vccCoreMv), ("VIL", Electrical.genVil), ("VOH", Electrical.genVoh vccCoreMv),
     ("VOL", Electrical.genVol), ("ILEAK_P", Electrical.genLeakP), ("ILEAK_N", Electrical.genLeakN),
     ("IOH", Electrical.genIoh), ("IOL", Electrical.genIol), ("Slew", Electrical.genSlew), ("CPIN", Electrical.genCapacitance)]
    ++ rowsIf g.isInput [("TSU", Electrical.genSetup), ("THD", Electrical.genHold), ("TBIT", Electrical.tBit),
      ("TRPT", Electrical.tRpt)]
    ++ rowsIf g.isOutput [("TDELAY", Electrical.genDelay)]
    ++ g.validRows
  | .apic =>
    [("VIH", Electrical.apicVih), ("VIL", Electrical.apicVil), ("VOH", Electrical.apicVoh), ("VOL", Electrical.apicVol),
     ("ILEAK_P", Electrical.apicLeakP), ("ILEAK_N", Electrical.apicLeakN), ("IOL", Electrical.apicIol),
     ("TSU", Electrical.apicSetup), ("THD", Electrical.apicHold), ("Slew", Electrical.apicSlew),
     ("CPIN", Electrical.apicCapacitance)]
    ++ g.validRows
  | .diode =>
    [("I", Electrical.diodeSourcing), ("nf,lumped", Electrical.diodeLumped), ("nf,actual", Electrical.diodeActual),
     ("RT", Electrical.diodeSeries)]

/-- The limits that apply to a pin (R235). -/
def Signal.limits (g : Signal) (vccCoreMv vrefMv : Int) (coreMHz : Nat) : List (String × Limit) :=
  g.tables.flatMap (ElectricalTable.rows g vccCoreMv vrefMv coreMHz)

/-- The rail an over-voltage at a pin is one of (R241, log entry 67); none for a pin that carries no signal voltage. -/
def Signal.rail : Signal → Option Rail
  | .vccCore => some .vccCore
  | .vcca => some .vcca
  | .picd _ | .picclk => some .apicPin
  | .fid _ => some .fidPullup
  | .vid _ => some .vidPullup
  | .fsbSense _ => some .fsbSensePullup
  | .vss | .nc | .key | .noPin | .amdPin => none
  | _ => some .signalPin

/-! ### Strap pins and levels -/

/-- What a product's package makes of a strap pin (45_signals.md R323, R341, R346, R355). FID[3:0] is driven so while it is valid
(R341, `State.fidValid`). -/
def Part.strapPin (p : Part) : Signal → Option StrapPin
  | .fid b       => some (fidPin (p.fid.getLsbD b.val))
  | .vid b       => some (vidPin (p.vid.getLsbD b.val))
  | .fsbSense b  => some (fsbSensePin (p.fsbSense.getLsbD b.val))
  | .cpuPresence => some .grounded
  | _            => none

/-- The logical level of a pin the state holds (10_state.md R32) or the package fixes; none for a pin whose level neither does,
FID[3:0] while it is not valid among them (93 U11). -/
def State.asserted? (s : State) : Signal → Option Bool
  | .stpclk    => some s.pins.stpclk
  | .reset     => some s.pins.reset
  | .init      => some s.pins.init
  | .intr      => some s.pins.intr
  | .nmi       => some s.pins.nmi
  | .smi       => some s.pins.smi
  | .a20m      => some s.pins.a20m
  | .ignne     => some s.pins.ignne
  | .connect   => some s.pins.connect
  | .clkfwdrst => some s.pins.clkfwdrst
  | .pwrok     => some s.pins.pwrok
  | .procrdy   => some s.pins.procrdy
  | .dbrdy     => some s.pins.dbrdy
  | .ferr      => some s.x86.numericPending
  | .cpuPresence => some true
  | .flush | .dbreq => some false
  | .fid b     => if s.fidValid then (s.part.strapPin (.fid b)).map StrapPin.high else none
  | .vid b     => (s.part.strapPin (.vid b)).map StrapPin.high
  | .fsbSense b => (s.part.strapPin (.fsbSense b)).map StrapPin.high
  | _          => none

/-- The wire level of such a pin: High is true (R310). -/
def State.wire? (s : State) (g : Signal) : Option Bool := (s.asserted? g).map (Bus.wireHigh g.activeLow)

end Sys2Proof.Machine
end

