-- ==== Sys2Proof/Safety.lean ====
section
/-! DEFINITION. Safety.lean: the terms in which claims speak of the machine: the state behind a Probe, what was sent on the
bus, and the invariant of the power and connect machines, which collects the invariants the spec gives (40_power_states.md
R143, R157) and what its other rules say always holds. -/

namespace Sys2Proof.Machine

/-- The power state a Probe returns to, or the power state itself (40_power_states.md R137's first column, R153). -/
def Power.behind (p : Power) (ret : Resting) : Power :=
  match p with
  | .probe     => ret.toPower
  | .working   => .working
  | .halt      => .halt
  | .stopGrant => .stopGrant

/-- `S.pm`, or `S.probe_ret` while `S.pm = Probe` (R137's first column). -/
def State.restPm (s : State) : Power := s.pm.behind s.probeRet

/-- The special cycle an output event is, if it is one. -/
def OutEvent.cycle? : OutEvent → Option Cycle
  | .cycle k         => some k
  | .intAck _        => none
  | .procrdy _       => none
  | .probeResponse _ => none

/-- The special cycles sent so far, oldest first. -/
def State.cycles (s : State) : List Cycle := s.out.filterMap OutEvent.cycle?

/-- The edge of PROCRDY an output event is, if it is one. -/
def OutEvent.edge? : OutEvent → Option Bool
  | .cycle _         => none
  | .intAck _        => none
  | .procrdy b       => some b
  | .probeResponse _ => none

/-- The edges of PROCRDY so far, oldest first. -/
def State.edges (s : State) : List Bool := s.out.filterMap OutEvent.edge?

/-- The machine when, of the latched events, it is INTR's turn: the four before it have had theirs (60_exceptions.md R414). -/
def State.atIntr (s : State) : State := [Kind.init, .smi, .nmi, .apic].foldl (deliverIf s.latched) s

/-- The interrupt acknowledge sent when what is latched is delivered: one if an INTR is latched and `X86_ISA` does not mask it when
its turn comes (40_power_states.md R142; 60_exceptions.md R404, R410). -/
def State.latchedAck (s : State) : List OutEvent :=
  if s.latched.intr && !s.atIntr.x86.intrMasked then [.intAck s.env.vector] else []

/-- The input event of a kind (10_state.md R33); only an APIC event carries a message. -/
def Kind.input (k : Kind) (m : Opaque) : Input :=
  match k with
  | .init => .init
  | .smi  => .smi
  | .nmi  => .nmi
  | .apic => .apicMsg m
  | .intr => .intr

/-- What the event does to the pins, before anything else: its pin is asserted, and the time is noted. -/
def Kind.mark (k : Kind) (s : State) : State :=
  match k with
  | .init => markPin .init true s
  | .smi  => markPin .smi true s
  | .nmi  => markPin .nmi true s
  | .apic => s
  | .intr => markPin .intr true s

/-- The next step is the processor's own, with `is` the inputs after it, and no STPCLK# asserted in Halt takes its place (40 R139;
log entry 16): the input `step` that does not recognise STPCLK#, or, where that cannot be, the one that would, or no input left. -/
abbrev State.ownStepNext (s : State) (is : List Input) : Prop :=
  s.inputs = .step false :: is ∨
    (s.pm ≠ .halt ∨ s.pins.stpclk = false) ∧ (s.inputs = .step true :: is ∨ s.inputs = [] ∧ is = [])

/-- `n` steps, one after the other. -/
def runSteps : Nat → State → Result
  | 0,     s => .next s
  | n + 1, s => andThen (step s) (runSteps n)

/-- The levels of the three protocol pins in each state of the connect machine (41_connect_protocol.md R184). In
`Connected` CONNECT may still be on its way up after a cancelled disconnect (R187). -/
def Pins.fitConn (p : Pins) : Conn → Bool
  | .connected         => p.procrdy && !p.clkfwdrst
  | .disconnectPending => !p.connect && p.procrdy && !p.clkfwdrst
  | .disconnected      => !p.connect && !p.procrdy
  | .connectPending1   => p.procrdy
  | .connectPending2   => p.connect && p.procrdy && !p.clkfwdrst

/-- The invariant: from every state that has it, every step leads to a state that has it. -/
structure Inv (s : State) : Prop where
  /-- Memory is in canonical form. -/
  mem : s.mem.wf = true
  /-- RESET# asserted keeps the machine in reset (10_state.md R37). -/
  resetPin : s.pins.reset = true → s.rst = .inReset
  /-- Out of the run phase the bookkeeping is cleared (R62; 92 D10). -/
  cleared : s.rst ≠ .run → s.pm = .working ∧ s.sgFromHalt = false ∧ s.oweSg = false
  /-- Low power only in Halt and Stop Grant (40 R157 (a)). -/
  lowPower : s.lowPower = true → s.pm = .halt ∨ s.pm = .stopGrant
  /-- Working only while connected (R143; R157 (b)). -/
  working : s.pm = .working → s.conn = .connected
  /-- Probe only while connecting or connected (R157 (c)). -/
  probe : s.pm = .probe → s.conn = .connectPending1 ∨ s.conn = .connectPending2 ∨ s.conn = .connected
  /-- Outside Working a disconnect is invited or a Connect special cycle is owed, never both; in Working neither
  (10_state.md R42, R43; 41 R190). -/
  invited : if s.pm = .working then s.discReq = false ∧ s.wake = false else s.discReq = !s.wake
  /-- A Connect special cycle is owed only while the bus is off or coming up (R43). -/
  wakeConn : s.wake = true → s.conn = .disconnected ∨ s.conn = .connectPending1 ∨ s.conn = .connectPending2
  /-- A Probe ends before a wake-up event is handled (40 R153). -/
  probeWake : s.pm = .probe → s.wake = false
  /-- `S.sg_from_halt` speaks of a stay in Stop Grant (R40). -/
  fromHalt : s.sgFromHalt = true → s.restPm = .stopGrant
  /-- The Stop Grant special cycle is owed only after STPCLK# in a disconnected Halt, until connected (R45; 40 R139). -/
  owed : s.oweSg = true → s.pm = .stopGrant ∧ s.sgFromHalt = true ∧ s.wake = true
  /-- In Working nothing is latched (R44). -/
  served : s.pm = .working → s.latched.any = false
  /-- In Halt nothing is latched without waking (40 R138). -/
  waking : s.restPm = .halt → s.latched.any = true → s.wake = true
  /-- The internal clocks run at full speed unless disconnected (R41; 41 R184). -/
  fullSpeed : s.conn ≠ .disconnected → s.clockDiv = 1
  /-- Disconnected and not woken, they are divided as CLK_Ctl says (40 R134, R136). -/
  divided : s.conn = .disconnected → s.wake = false → s.clockDiv = s.disconnectDiv
  /-- The protocol pins are as in 41 R184. -/
  pins : s.running = true → s.pins.fitConn s.conn = true
  /-- STPCLK# holds the processor in Stop Grant (40 R135, R142; 93 U7), but for its edges that wait for a probe (R153, 92 D17). -/
  stpclk : s.running = true → s.restPm = .stopGrant → (s.wake = false ∨ s.oweSg = true) →
    levelBefore s.deferred s.pins.stpclk = true
  /-- Something waits only while a probe is being serviced (40 R153, 92 D17). -/
  deferring : s.deferred ≠ [] → s.pm = .probe ∧ s.conn = .connected ∧ s.env.probeOutstanding = true
  /-- The machine runs only with a push-pull packet that matches FID[3:0] (10_state.md R47; 70 R465). -/
  sip : s.rst = .run → s.sip.sysPushPull = true ∧ s.sip.forFid = s.part.fid
  /-- The caches and TLBs are organised as stated: split, exclusive, within their capacities (20_memory.md R94; 10_state.md
  R58). -/
  organised : s.cache.Organised
  /-- A Northbridge in reset drives CONNECT asserted (70_reset_and_hazards.md R457). -/
  nbReset : s.env.nbReset = true → s.pins.connect = true

end Sys2Proof.Machine
end

