-- ==== Sys2Proof/Certificates/Slice0/Obligations.lean ====
section
/-! DEFINITION. Certificates/Slice0/Obligations.lean: the statements for the provers. Each docstring names the rules of spec/
it formalises; where a clause is a decision of the spec (92 D<n>) or of the model (log entry <n>), it says so. -/

open Sys2Proof Sys2Proof.Machine

/-! ### Encoding -/

/-- 30 R113: the four rows of the encoding table, with format, bytes, match and mask, and the decoder's reading of the
bytes as written there. The patterns are general knowledge (93 G1, log entry 4). -/
def Obligations.OpcodeRowsDecode : Prop :=
  (Instr.row .hlt = ⟨.op1, [0xF4#8], 0xF4, 0xFF⟩ ∧ decode [0xF4#8] = .ours .hlt []) ∧
  (Instr.row .wrmsr = ⟨.op2, [0x0F#8, 0x30#8], 0x300F, 0xFFFF⟩ ∧ decode [0x0F#8, 0x30#8] = .ours .wrmsr []) ∧
  (Instr.row .rdmsr = ⟨.op2, [0x0F#8, 0x32#8], 0x320F, 0xFFFF⟩ ∧ decode [0x0F#8, 0x32#8] = .ours .rdmsr []) ∧
  (Instr.row .cpuid = ⟨.op2, [0x0F#8, 0xA2#8], 0xA20F, 0xFFFF⟩ ∧ decode [0x0F#8, 0xA2#8] = .ours .cpuid [])

/-- 30 R113, R114: decode and encode agree, whatever bytes follow, and on the word of the opcode table. -/
def Obligations.DecodeOfEncode : Prop :=
  ∀ (i : Instr) (rest : List Byte),
    i.wf = true ∧ decode (encode i ++ rest) = .ours i rest ∧ decodeTableWord (8 * i.length) (leNat (encode i)) = some i

/-- 30 R113, R114: decode and encode agree in both directions: the decoder reads an instruction from a byte string exactly
when the string is the instruction's encoding and what follows it; from every other string it answers by name what it leaves
to `X86_ISA` (92 D1), and each name says of the bytes what it should. -/
def Obligations.DecodeExactlyEncodings : Prop :=
  ∀ bs : List Byte,
    (∀ i rest, i.wf = true ∧ decode bs = .ours i rest ↔ bs = encode i ++ rest) ∧
    (∀ b, decode bs = .foreignOpcode b → bs.head? = some b ∧ ∀ i, (encode i).head? ≠ some b) ∧
    (∀ b, decode bs = .foreignEscape b → bs.take 2 = [0x0F#8, b] ∧ ∀ i, (encode i).take 2 ≠ [0x0F#8, b]) ∧
    (decode bs = .tooShort ↔ bs = [] ∨ bs = [0x0F#8])

/-! ### A step runs the decoded instruction -/

/-- 40 R132, 30 R114: in a running Working state on a connected bus, when a fetch finds an instruction's bytes (in memory, or
among those the processor holds already: log entry 73) at the addresses it goes to, the processor's own step is the
instruction's meaning: with no input left and no STPCLK# asserted, with the input `step` that does not recognise STPCLK#, and
with the one that would while STPCLK# is not asserted. Unless an INTR that stayed pending is due first (40 R142, log entry 23:
`LatchedEventsDeliveredInOrder`). -/
def Obligations.StepRunsDecodedInstruction : Prop :=
  ∀ (s : State) (i : Instr), i.wf = true → s.running = true → s.pm = .working → s.conn = .connected →
    (s.intrPending = false ∨ s.x86.intrMasked = true) →
    (∀ k (h : k < (encode i).length), (fetchAddr s k).bind s.codeByte = some ((encode i)[k])) →
    (s.inputs = [] → s.pins.stpclk = false → step s = exec i s) ∧
    (∀ is, s.inputs = .step false :: is → step s = exec i { s with inputs := is }) ∧
    (∀ is, s.inputs = .step true :: is → s.pins.stpclk = false → step s = exec i { s with inputs := is })

/-- 40 R132, 30 R114, R115: bytes that are none of the four are `X86_ISA`'s: its answer is carried out, and where it cannot
decode them the step is refused, never a no-op. Stated for every state and every byte a fetch can get, at the first address and
at the second: one the processor holds or memory lists, or else the environment's (93 U6, log entry 74: one draw each). `F4` is
HLT; `0F` asks for a second byte, and `30`, `32` and `A2` after it are WRMSR, RDMSR and CPUID (R113); every other byte, first or
second, is left to `X86_ISA`; a fetch whose translation fails is its fault (20 R96, log entry 72). So with the input `step` that does
not recognise STPCLK#, and, while STPCLK# is not asserted, with the one that would and with no input left (asserted:
`StpclkRecognisedInWorking`); unless an INTR that stayed pending is due first (40 R142, log entry 23). -/
def Obligations.StepLeavesOtherBytesToX86 : Prop :=
  ∀ (s : State) (is : List Input), s.running = true → s.pm = .working → s.conn = .connected →
    (s.intrPending = false ∨ s.x86.intrMasked = true) →
    s.inputs = .step false :: is ∨ s.pins.stpclk = false ∧ (s.inputs = .step true :: is ∨ s.inputs = [] ∧ is = []) →
    let got := fun (u : State) (a : Nat) =>
      match u.codeByte a with
      | some b => (b, u)
      | none   => (Config.environmentByte u.free a, { u with free := u.free + 1 })
    let failed := fun u : State => Host.Outcome.next (applyEffect (Config.x86FetchFault u.x86 (busView u)) u)
    let foreign := fun u : State =>
      match Config.x86Step u.x86 (busView u) with
      | .runs e      => Host.Outcome.next (applyEffect e u)
      | .undecodable => .refused .undecodable
    let u : State := { s with inputs := is }
    match fetchAddr u 0 with
    | none   => step s = failed u
    | some a => ∀ b v, got u a = (b, v) →
      (b = 0xF4#8 → step s = exec .hlt v) ∧
      (b ≠ 0xF4#8 → b ≠ 0x0F#8 → step s = foreign v) ∧
      (b = 0x0F#8 →
        match fetchAddr v 1 with
        | none   => step s = failed v
        | some a => ∀ c w, got v a = (c, w) →
          (c = 0x30#8 → step s = exec .wrmsr w) ∧ (c = 0x32#8 → step s = exec .rdmsr w) ∧
          (c = 0xA2#8 → step s = exec .cpuid w) ∧ (c ≠ 0x30#8 → c ≠ 0x32#8 → c ≠ 0xA2#8 → step s = foreign w))

/-! ### The four instructions -/

/-- 40 R133: HLT, allowed by `X86_ISA` in the current mode (60 R420), completes in Working: Halt, the Halt special cycle, an
invited disconnect; of the rest only the fetch address may change (it moves by log entry 12). -/
def Obligations.HltEntersHalt : Prop :=
  ∀ s : State, s.pm = .working → s.x86.privileged = true →
    (∃ a : Addr, exec .hlt s = .next { s with
      pm := .halt, out := s.out ++ [OutEvent.cycle .halt], discReq := true, x86 := { s.x86 with fetch := a } }) ∧
    (∀ t, exec .hlt s = .next t → ∀ x, t.mem.read x = s.mem.read x)

/-- 42 R210: HLT outside Working is outside the model (95 I2). -/
def Obligations.HltOutsideWorkingRefused : Prop :=
  ∀ s : State, s.pm ≠ .working → exec .hlt s = .refused .notWorking

/-- 95 P1, P3 (log entry 12, DESIGN CHOICE): each of the four instructions, where it has its own effect, moves the fetch
address past its bytes: HLT's one, the others' two. -/
def Obligations.InstructionsAdvanceFetch : Prop :=
  ∀ s : State,
    (s.pm = .working → s.x86.privileged = true → ∃ t, exec .hlt s = .next t ∧ t.x86.fetch = s.x86.fetch + 1) ∧
    (∃ t, exec .cpuid s = .next t ∧ t.x86.fetch = s.x86.fetch + 2) ∧
    (s.x86.privileged = true → s.x86.gpr.ecx = 0xC001001B#32 →
      (∃ t, exec .rdmsr s = .next t ∧ t.x86.fetch = s.x86.fetch + 2) ∧
      (writeAllowed s.clkCtl (msrValue s.x86) = true → ∃ t, exec .wrmsr s = .next t ∧ t.x86.fetch = s.x86.fetch + 2))

/-- 42 R214: CPUID completes in every state: EAX, EBX, ECX and EDX become `CPUID_TABLE(EAX)`; of the rest only the fetch
address may change. -/
def Obligations.CpuidReadsTable : Prop :=
  ∀ s : State,
    let r := Config.cpuidTable s.x86.gpr.eax
    (∃ a : Addr, exec .cpuid s = .next { s with x86 := { s.x86 with
      gpr := ⟨r.eax, r.ecx, r.edx, r.ebx, s.x86.gpr.esp, s.x86.gpr.ebp, s.x86.gpr.esi, s.x86.gpr.edi⟩, fetch := a } }) ∧
    (∀ t, exec .cpuid s = .next t → ∀ x, t.mem.read x = s.mem.read x)

/-- 42 R217: RDMSR of C001_001Bh, allowed in the current mode, completes: EAX is bits 31 to 0 of CLK_Ctl, EDX bits 63 to
32; of the rest only the fetch address may change. The widths and the register convention are 93 G2, G4 (log entries 2, 3).
That every bit reads back as held, where R217 has reserved bits read as unspecified values, is the model's choice (log
entry 22). -/
def Obligations.RdmsrReadsClkCtl : Prop :=
  ∀ s : State, s.x86.privileged = true → s.x86.gpr.ecx = 0xC001001B#32 →
    (∃ a : Addr, exec .rdmsr s = .next { s with x86 := { s.x86 with
      gpr := { s.x86.gpr with eax := s.clkCtl.setWidth 32, edx := (s.clkCtl >>> 32).setWidth 32 }, fetch := a } }) ∧
    (∀ t, exec .rdmsr s = .next t → ∀ x, t.mem.read x = s.mem.read x)

/-- 42 R218: WRMSR of C001_001Bh, allowed in the current mode, completes: CLK_Ctl is EDX:EAX, and the power and connect
machines, every register and memory are as before; only the fetch address may change too. It does so exactly for a value the
spec itself writes (95 I3, I4, P1) or one that keeps the reserved bits; a write that changes them is outside the model (93 U3).
Which bits are reserved is not stated: an open mask, the model's choice (log entry 22). -/
def Obligations.WrmsrWritesClkCtl : Prop :=
  ∀ s : State, s.x86.privileged = true → s.x86.gpr.ecx = 0xC001001B#32 →
    let v := BitVec.ofNat 64 (s.x86.gpr.edx.toNat * 2 ^ 32 + s.x86.gpr.eax.toNat)
    let kept := v = 0x20031223#64 ∨ v = 0#64 ∨ (s.clkCtl ^^^ v) &&& Config.clkCtlReserved = 0#64
    (kept → ∃ a : Addr, exec .wrmsr s = .next { s with clkCtl := v, x86 := { s.x86 with fetch := a } }) ∧
    (¬kept → exec .wrmsr s = .refused .reservedBitsChanged) ∧
    (∀ t, exec .wrmsr s = .next t → ∀ x, t.mem.read x = s.mem.read x)

/-- 42 R217, R218 ("X86_ISA decides"), 60 R420: RDMSR and WRMSR of every other address, and HLT, RDMSR and WRMSR where the
current mode does not allow them, complete with what `X86_ISA` decides: its state, the caches as far as they fit their
organisation (20 R94) and A20M# lets code bytes be addressed (R91), and its stores, in order. CLK_Ctl, the power and connect machines, pins and output are as before: that
`X86_ISA` cannot change them is the model's choice (log entries 1 and 13). Every byte of memory it does not store to is as
before. -/
def Obligations.X86DecidesTheRest : Prop :=
  ∀ (s : State) (i : Instr), i ≠ .cpuid → (i = .hlt → s.pm = .working ∧ s.x86.privileged = false) →
    (i ≠ .hlt → s.x86.privileged = false ∨ s.x86.gpr.ecx ≠ 0xC001001B#32) →
    let e := Config.x86Decides i s.x86 (busView s)
    exec i s = .next { s with
      x86 := e.x86, cache := e.caches.fit.under s.pins.a20m s.cache, mem := storeAll s.pins.a20m e.stores s.mem
      free := s.free + 1 } ∧
    ∀ x, (∀ w ∈ e.stores, ∀ k < w.n, phys s.pins.a20m (w.addr + BitVec.ofNat 64 k) ≠ x) →
      (storeAll s.pins.a20m e.stores s.mem).read x = s.mem.read x

/-! ### Memory -/

/-- 20 R80: the byte order. `MemRead(addr, n)` answers when memory lists the `n` bytes (that an unlisted byte has no value is
log entry 11), and then bits 8k+7 to 8k of the result are the byte at `addr + k`. `MemWrite(addr, n, v)` stores bits 8k+7 to 8k
of `v` at `addr + k`, every other byte keeps what it holds, and the value reads back; the write up to 2^20 bytes, so that no two
of them are one physical address under A20M#. Addresses are physical, through `phys`: 20 R91 with decisions 92 D6 and D7, log
entry 5. That a write is kept and reads back at every physical address is the model's choice (DESIGN CHOICE, unsafe: log entry 79):
what a store to an address nothing responds to does is the environment's (93 U6). -/
def Obligations.MemoryIsLittleEndian : Prop :=
  ∀ (m : Memory) (a20m : Bool) (a : Addr) (n v : Nat),
    ((∃ w, memRead m a20m a n = some w) ↔ ∀ k < n, ∃ b, m.read (phys a20m (a + BitVec.ofNat 64 k)) = some b) ∧
    (∀ w, memRead m a20m a n = some w → w < 256 ^ n ∧
      ∀ k < n, m.read (phys a20m (a + BitVec.ofNat 64 k)) = some (BitVec.ofNat 8 (w / 256 ^ k))) ∧
    (n ≤ 2 ^ 20 →
      (∀ k < n, (memWrite m a20m a n v).read (phys a20m (a + BitVec.ofNat 64 k)) = some (BitVec.ofNat 8 (v / 256 ^ k))) ∧
      (∀ x, (∀ k < n, phys a20m (a + BitVec.ofNat 64 k) ≠ x) → (memWrite m a20m a n v).read x = m.read x) ∧
      memRead (memWrite m a20m a n v) a20m a n = some (v % 256 ^ n))

/-- The canonical form of memory is unique: two memories in it that read alike are equal (log entry 11). That the machine's memory
stays in it is `InvariantKept`'s clause `mem`, not this statement's. -/
def Obligations.CanonicalMemoriesEqual : Prop :=
  ∀ m n : Memory, m.wf = true → n.wf = true → (∀ a, m.read a = n.read a) → m = n

/-- 20 R91 with decision 92 D7 (the spec's own, from general knowledge): A20M# asserted clears bit 20 of the physical
address and no other bit, so the 64 Kbytes from 10_0000h alias those from 0. For addresses below 2^33, which every
`PA_WIDTH` holds (92 D6). Of memory, and of the code bytes held before it ("before the cache lookup"), `X86_ISA` then sees no
byte at an address with bit 20 set, and every other one as it is; of code bytes held at such addresses it changes none, and a
speculative load brings in none; in every mode (log entry 62). -/
def Obligations.A20mClearsBit20 : Prop :=
  (∀ a : Addr, a.toNat < 2 ^ 33 →
    phys false a = a.toNat ∧
    (∀ i, (phys true a).testBit i = (decide (i ≠ 20) && a.toNat.testBit i)) ∧
    (0x100000 ≤ a.toNat → a.toNat ≤ 0x10FFEF → phys true a = a.toNat - 0x100000)) ∧
  (∀ (s : State) (x : Nat),
    let hides := s.pins.a20m && x.testBit 20
    (busView s).mem.read x = (if hides then none else s.mem.read x) ∧
    (busView s).caches.code.read x = (if hides then none else s.cache.code.read x) ∧
    (∀ e, (applyEffect e s).cache.code.read x = if hides then s.cache.code.read x else e.caches.code.read x) ∧
    (∀ is c t b, s.inputs = .speculate c :: is → step s = .next t → t.cache.code.read x = some b →
      s.cache.code.read x = some b ∨ hides = false ∧ s.mem.read x = some b))

/-- 20 R93, 40 R149: another bus master's read or write completes in a running machine only on a connected bus, not in ACPI
S1, and, while the processor sleeps, after a disconnect in the present Halt or Stop Grant only once a probe has been sent (a
wake-up's Connect special cycle ends that: see the statements that send it); otherwise it is outside the model.
Completed, a write changes one byte and a read nothing. The model's choices: one byte an access, its address not masked by
A20M#, any access while the machine does not run, and the scope of the probe's condition (log entries 5, 36 and 52). -/
def Obligations.BusMasterNeedsConnectAndProbe : Prop :=
  ∀ (s : State) (is : List Input) (a : Addr) (b : Byte) (i : Input), i = .busWrite a b ∨ i = .busRead a →
    s.inputs = i :: is →
    let due := s.env.probeDue = true ∧ s.pm ≠ .working
    (s.running = true → s.conn ≠ .connected → step s = .refused .busMasterWhileDisconnected) ∧
    (s.running = true → s.conn = .connected → s.inS1 = true → step s = .refused .busMasterInS1) ∧
    (s.running = true → s.conn = .connected → s.inS1 = false → due → step s = .refused .busMasterWithoutProbe) ∧
    ((s.running = true → s.conn = .connected ∧ s.inS1 = false ∧ ¬due) →
      (i = .busRead a → step s = .next { s with inputs := is }) ∧
      (i = .busWrite a b → ∃ m, step s = .next { s with inputs := is, mem := m } ∧ m.read (narrow a) = some b ∧
        ∀ x, x ≠ narrow a → m.read x = s.mem.read x))

/-! ### Events -/

/-- 60 R403 to R406, R408: an SMI#, NMI, APIC message or unmasked INTR in a running Working state is handed to `X86_ISA`:
SMI# enters system management mode; INTR, and only INTR, first runs an interrupt acknowledge that fetches the 8-bit
vector; one that stayed pending is served with it (92 D13, log entry 23). VCC_CORE is within Table 6 in Working, or the run is
outside the model (43 R240, 93 U8; every step keeps it: `PlatformViolationsRefused`). -/
def Obligations.EventInWorkingIsDelivered : Prop :=
  ∀ (s : State) (is : List Input) (k : Kind) (m : Opaque), s.inputs = k.input m :: is → s.running = true →
    s.pm = .working → s.vccInTolerance = true →
    let u := k.mark { s with inputs := is }
    (k = .smi → ∃ v, v = applyEffect (Config.x86Deliver u.x86 (busView u) .smi) u ∧
      step s = .next { v with x86 := { v.x86 with mode := .systemManagement } }) ∧
    (k = .nmi → step s = .next (applyEffect (Config.x86Deliver u.x86 (busView u) .nmi) u)) ∧
    (k = .apic → step s = .next (applyEffect (Config.x86Deliver u.x86 (busView u) (.apic m)) u)) ∧
    (k = .intr → s.x86.intrMasked = false →
      step s = .next (applyEffect (Config.x86Deliver u.x86 (busView u) (.intr s.env.vector))
        { u with intrPending := false, out := s.out ++ [OutEvent.intAck s.env.vector] }))

/-- 60 R407 (92 D11 for CLK_Ctl): INIT# in a running Working state (VCC_CORE within Table 6 of 43 R240) resets the integer
registers to `X86_ISA`'s values and starts at 0_FFFF_FFF0h; the floating-point registers, FERR (10_state.md R62), the caches,
CLK_Ctl, the bus, the SIP, memory and output are as before. So are the TLBs and the prefetcher: that is the model's reading, since
R62's column for INIT# has "TLBs n/s" (DEDUCED, log entry 20). The rest of the x86 state is not stated (93 U1). With A20M# asserted the first fetch
goes to that address with bit 20 clear: decision 92 D7 (the spec's own) and, for every mode, log entries 5 and 62. -/
def Obligations.InitInWorking : Prop :=
  ∀ (s : State) (is : List Input), s.inputs = .init :: is → s.running = true → s.pm = .working →
    s.vccInTolerance = true →
    ∃ t, step s = .next t ∧ t.x86.gpr = Config.x86ResetState.gpr ∧ t.x86.fetch = 0xFFFFFFF0#64 ∧
      t.x86.fp = s.x86.fp ∧ t.ferr = s.ferr ∧
      t = { Machine.markPin .init true { s with inputs := is } with x86 := t.x86 } ∧
      fetchAddr t 0 = some (if s.pins.a20m then 0xFFEFFFF0 else 0xFFFFFFF0)

/-- 60 R404 with decision 92 D4 (the spec's own): an INTR that `X86_ISA` reports masked is no event in any power state: it
delivers nothing, latches nothing, wakes nothing and sends nothing; only the pin's level changes. (In Working, VCC_CORE within
Table 6 of 43 R240, as every step keeps it: `PlatformViolationsRefused`.) -/
def Obligations.MaskedIntrIsNoEvent : Prop :=
  ∀ (s : State) (is : List Input), s.inputs = .intr :: is → s.x86.intrMasked = true →
    s.vccCoreOk = true →
    step s = .next (markPin .intr true { s with inputs := is })

/-- 40 R138, R137, 41 R186, R187 (92 D5): an event that is not a masked INTR ends a Halt whose bus still operates: the
Connect special cycle if a disconnect was invited, Working, connected, the event delivered (with INTR its acknowledge),
nothing left latched. PROCRDY and CLK_Ctl are as before, and no probe is due to another bus master any more (20 R93). VCC_CORE
has to be within Table 6 for it (43 R240, 93 U8). -/
def Obligations.EventEndsConnectedHalt : Prop :=
  ∀ (s : State) (is : List Input) (k : Kind) (m : Opaque), s.inputs = k.input m :: is → s.running = true →
    s.pm = .halt → s.busUp = true → s.deliverable k = true → s.latched.any = false → s.vccInTolerance = true →
    ∃ t, step s = .next t ∧ t.pm = .working ∧ t.conn = .connected ∧ t.discReq = false ∧ t.latched.any = false ∧
      t.out = s.out ++ (if s.discReq then [OutEvent.cycle .connect] else []) ++
        (if k = .intr then [OutEvent.intAck s.env.vector] else []) ∧
      t.pins = (k.mark s).pins ∧ t.clkCtl = s.clkCtl ∧ t.env = { s.env with probeDue := false } ∧
      ∃ u : State, u.x86 = s.x86 ∧ u.mem = s.mem ∧ u.cache = s.cache ∧ u.pins = t.pins ∧ u.env = s.env ∧ u.free = s.free ∧
        t.x86 = (deliver k m u).x86 ∧ t.mem = (deliver k m u).mem ∧ t.cache = (deliver k m u).cache

/-- 40 R138, R137, 41 R188: an event in a Halt whose bus is off or coming up is remembered, and a Connect special cycle is
owed; nothing is sent, and nothing else changes. -/
def Obligations.EventInDisconnectedHaltWakes : Prop :=
  ∀ (s : State) (is : List Input) (k : Kind) (m : Opaque), s.inputs = k.input m :: is → s.running = true →
    s.pm = .halt → s.busUp = false → s.deliverable k = true →
    step s = .next { k.mark { s with inputs := is } with latched := s.latched.add k m, wake := true, discReq := false }

/-- 40 R141: events in Stop Grant, in any number and any order, are latched and nothing more: no state change, no bus
activity, no reconnect, no instruction. A masked INTR is not among them (92 D4). -/
def Obligations.EventsInStopGrantAreLatched : Prop :=
  ∀ (evs : List (Kind × Opaque)) (s : State) (is : List Input), s.running = true → s.pm = .stopGrant →
    s.inputs = evs.map (fun e => e.1.input e.2) ++ is →
    ∃ t, runSteps evs.length s = .next t ∧
      t = { s with inputs := is, latched := t.latched, pins := t.pins, times := t.times } ∧
      t.pins = { s.pins with init := t.pins.init, smi := t.pins.smi, nmi := t.pins.nmi, intr := t.pins.intr } ∧
      ∀ k, t.latched.has k = (s.latched.has k || (s.deliverable k && evs.any fun e => e.1 == k))

/-- 60 R410, R414 with decisions 92 D12, D13 (the spec's own), and 40 R142: the latched events have their turns in the order INIT#,
SMI#, NMI, APIC, INTR, each once, and nothing stays latched. Each is delivered, "only if `X86_ISA` allows" it (R142): an INTR that is
masked when its turn comes runs no interrupt acknowledge and stays pending; otherwise exactly one is run, after the others. A
pending INTR is taken, with its acknowledge, at the first boundary in Working at which it is masked no longer: that the boundary is the
processor's next own step that recognises no STPCLK#, and that all that stays pending makes one INTR, is the model's choice (DESIGN
CHOICE, log entry 23). -/
def Obligations.LatchedEventsDeliveredInOrder : Prop :=
  ∀ s : State,
    let turn := fun (k : Kind) (u : State) =>
      if s.latched.has k then
        if k = .intr ∧ u.x86.intrMasked = true then { u with intrPending := true } else deliver k s.latched.apicMsg u
      else u
    let others := turn .apic (turn .nmi (turn .smi (turn .init s)))
    deliverLatched s = { turn .intr others with latched := .empty } ∧
    (deliverLatched s).out =
      s.out ++ (if s.latched.intr = true ∧ others.x86.intrMasked = false then [OutEvent.intAck s.env.vector] else []) ∧
    (deliverLatched s).intrPending = (if s.latched.intr then others.x86.intrMasked else s.intrPending) ∧
    (deliverLatched s).pm = s.pm ∧ (deliverLatched s).conn = s.conn ∧ (deliverLatched s).clkCtl = s.clkCtl ∧
    (∀ is, s.running = true → s.pm = .working → s.conn = .connected → s.intrPending = true → s.x86.intrMasked = false →
      s.inputs = .step false :: is ∨ s.pins.stpclk = false ∧ (s.inputs = .step true :: is ∨ s.inputs = [] ∧ is = []) →
      step s = .next (applyEffect (Config.x86Deliver s.x86 (busView s) (.intr s.env.vector))
        { s with inputs := is, intrPending := false, out := s.out ++ [OutEvent.intAck s.env.vector] }))

/-- 40 R153 with decision 92 D17 (the spec's own): an event, or an edge of STPCLK#, during Probe is handled as in the state
the Probe interrupted, "when the probe has been serviced". While a probe is outstanding on the connected bus it is remembered, after
what is remembered already, and only its pin and the cause of STPCLK# change; and what comes of it, once the probes are serviced, is
what comes of the same event or edge right after that. With no probe outstanding, or the bus still connecting (95 K4), it is handled
at once: that nothing is being serviced then is the model's reading (DEDUCED, log entry 24). -/
def Obligations.EventInProbeAsInRestingState : Prop :=
  ∀ (s u : State) (is : List Input) (i : Input) (d : Deferred), s.running = true → s.pm = .probe →
    (∃ k m, i = Kind.input k m ∧ s.deliverable k = true ∧ d = .event k (if k = .apic then m else 0) ∧ u = k.mark s) ∨
      (∃ c, i = .stpclkAssert c ∧ s.pins.stpclk = false ∧ d = .stpclk true ∧
        u = markPin .stpclk true { s with env := { s.env with stpclkCause := c } }) ∨
      (i = .stpclkDeassert ∧ s.pins.stpclk = true ∧ d = .stpclk false ∧ u = markPin .stpclk false s) →
    let servicing := s.conn = .connected ∧ s.env.probeOutstanding = true
    (¬servicing → s.inputs = i :: is → step s = step { s with pm := s.probeRet.toPower }) ∧
    (servicing → s.inputs = i :: is → step s = .next { u with inputs := is, deferred := s.deferred ++ [d] }) ∧
    (servicing → Inv s → s.deferred = [] → s.inputs = i :: .probeDone :: is →
      runSteps 2 s = runSteps 2 { s with inputs := .probeDone :: i :: is })

/-- 60 R412: FERR follows `X86_ISA`'s report of a pending unmasked numerical exception, whatever CR0 (its bit NE), the
power state and the pins are. -/
def Obligations.FerrFollowsNumericPending : Prop :=
  ∀ (s : State) (cr0 : Dword) (p : Power) (q : Pins),
    s.ferr = s.x86.numericPending ∧
    ({ s with pm := p, pins := q, x86 := { s.x86 with cr0 := cr0 } } : State).ferr = s.ferr ∧
    (s.wire? .ferr = some s.x86.numericPending ∧ s.boardFerrHigh = !s.x86.numericPending)

/-! ### Stop Grant -/

/-- 40 R135: at a boundary at which an asserted STPCLK# is recognised, a connected Working state goes to Stop Grant with its
special cycle and an invited disconnect, and nothing else changes; at a boundary at which it is not, the machine goes on as
if STPCLK# were not there: with an instruction, or with an INTR that stayed pending and is masked no longer (R142, log entry 23). The schedule says which it is; with no input left a free value does (log entry 17). -/
def Obligations.StpclkRecognisedInWorking : Prop :=
  ∀ s : State, s.running = true → s.pm = .working → s.conn = .connected → s.pins.stpclk = true →
    let granted := fun u : State => { u with
      pm := .stopGrant, sgFromHalt := false, out := s.out ++ [OutEvent.cycle .stopGrant], discReq := true }
    let goesOn := fun u : State =>
      if s.intrPending = true ∧ s.x86.intrMasked = false then Host.Outcome.next (deliver .intr 0 u) else runInstruction u
    (∀ is, s.inputs = .step true :: is → step s = .next (granted { s with inputs := is })) ∧
    (∀ is, s.inputs = .step false :: is → step s = goesOn { s with inputs := is }) ∧
    (s.inputs = [] → step s = if Config.recognisesStpclk s.free then .next (granted { s with free := s.free + 1 })
      else goesOn { s with free := s.free + 1 })

/-- 40 R139 with decision 92 D14 (the spec's own): STPCLK# asserted in Halt. On an operating bus: the Connect special cycle
if a disconnect was invited, then the Stop Grant special cycle. On a bus that is off or coming up: both are owed. The same for
an STPCLK# that was asserted already when Halt was entered, at the processor's own step that recognises it (log entry 16), or,
with no input left, as a free value says (log entry 17). What an earlier wake-up event of this Halt latched stays latched (log
entry 63). -/
def Obligations.StpclkInHalt : Prop :=
  ∀ (s : State) (is : List Input), s.running = true → s.pm = .halt →
    let granted := fun t : State => t.pm = .stopGrant ∧ t.sgFromHalt = true ∧ t.pins = { s.pins with stpclk := true } ∧
      t.x86 = s.x86 ∧ t.mem = s.mem ∧ t.cache = s.cache ∧ t.clkCtl = s.clkCtl ∧ t.latched = s.latched ∧
      (s.busUp = true → t.conn = .connected ∧ t.discReq = true ∧ t.oweSg = false ∧ t.wake = s.wake ∧
        t.out = s.out ++ (if s.discReq then [OutEvent.cycle .connect] else []) ++ [OutEvent.cycle .stopGrant]) ∧
      (s.busUp = false → t.conn = s.conn ∧ t.discReq = false ∧ t.oweSg = true ∧ t.wake = true ∧ t.out = s.out)
    (∀ c, s.inputs = .stpclkAssert c :: is → s.pins.stpclk = false → ∃ t, step s = .next t ∧ granted t) ∧
    (s.inputs = .step true :: is → s.pins.stpclk = true → ∃ t, step s = .next t ∧ granted t) ∧
    (s.inputs = [] → s.pins.stpclk = true → Config.recognisesStpclk s.free = true → ∃ t, step s = .next t ∧ granted t)

/-- 40 R142, R137, R146, R144 (92 D15): STPCLK# deasserted in Stop Grant. With the Stop Grant special cycle still owed it is
outside the model (93 U7). On a bus that is off or coming up: a Connect special cycle is owed, and nothing is sent. On an
operating bus: the Connect special cycle if a disconnect was invited; then, entered from Working: Working, with what was
latched delivered; entered from Halt: the Halt special cycle, and Halt, unless something was latched: then the Connect
special cycle again, Working, and delivery. VCC_CORE has to be within Table 6 where Working is reached (43 R240, 93 U8). No
probe is due to another bus master any more (20 R93). What is delivered acts on registers, memory and caches as `deliverLatched`
says, and a latched INTR is acknowledged if it is not masked at its turn, else it stays pending (R142; `latchedAck`,
`LatchedEventsDeliveredInOrder`). -/
def Obligations.StpclkReleasedInStopGrant : Prop :=
  ∀ (s : State) (is : List Input), s.inputs = .stpclkDeassert :: is → s.running = true → s.pm = .stopGrant →
    s.pins.stpclk = true →
    let conn := if s.discReq then [OutEvent.cycle .connect] else []
    let w : State := { s with pins := { s.pins with stpclk := false } }
    let v := deliverLatched w
    let ack := w.latchedAck
    (s.oweSg = true → step s = .refused .stpclkReleasedEarly) ∧
    (s.oweSg = false → s.busUp = false → step s = .next { s with
      inputs := is, pins := { s.pins with stpclk := false }, wake := true, discReq := false }) ∧
    (s.oweSg = false → s.busUp = true → (s.sgFromHalt = true ∧ s.latched.any = false ∨ s.vccInTolerance = true) →
      ∃ t, step s = .next t ∧ t.conn = .connected ∧ t.env.probeDue = false ∧ t.sgFromHalt = false ∧ t.pins = { s.pins with stpclk := false } ∧
        t.clkCtl = s.clkCtl ∧ t.x86 = v.x86 ∧ t.mem = v.mem ∧ t.cache = v.cache ∧ t.intrPending = v.intrPending ∧
        (s.sgFromHalt = false →
          t.pm = .working ∧ t.discReq = false ∧ t.out = s.out ++ conn ++ ack ∧ t.latched.any = false) ∧
        (s.sgFromHalt = true → s.latched.any = false →
          t.pm = .halt ∧ t.discReq = true ∧ t.out = s.out ++ conn ++ [OutEvent.cycle .halt] ∧ t.x86 = s.x86) ∧
        (s.sgFromHalt = true → s.latched.any = true →
          t.pm = .working ∧ t.discReq = false ∧ t.out = s.out ++ conn ++ [OutEvent.cycle .halt, .cycle .connect] ++ ack ∧
          t.latched.any = false) ∧
        (s.latched.any = false → t.x86 = s.x86 ∧ t.mem = s.mem ∧ t.cache = s.cache ∧ t.intrPending = s.intrPending))

/-- 40 R156 (row 5), 60 R411: STPCLK# edges in Working change no power state, send nothing, and touch nothing of the x86
state. -/
def Obligations.StpclkEdgesInWorking : Prop :=
  ∀ (s : State) (is : List Input), s.running = true → s.pm = .working →
    (∀ c, s.inputs = .stpclkAssert c :: is → s.pins.stpclk = false →
      step s = .next { s with
        inputs := is, pins := { s.pins with stpclk := true }, env := { s.env with stpclkCause := c }
        times := { s.times with stpclkAt := some s.times.now } }) ∧
    (s.inputs = .stpclkDeassert :: is → s.pins.stpclk = true →
      step s = .next { s with inputs := is, pins := { s.pins with stpclk := false } })

/-- 40 R147, 70 R490, 95 T9: throttling. Any number of STPCLK# episodes on a bus that stays connected sends the Stop Grant
and the Connect special cycle once each an episode, and leaves the program's state as it was. R490 sends Connect only if the bus
was disconnected; that it is sent on a bus that stayed connected too is the spec's own decision 92 D5, with 40 R137 and 95
T9. VCC_CORE is within Table 6 in Working (43 R240). -/
def Obligations.ThrottlingSendsPairs : Prop :=
  ∀ (n : Nat) (s : State) (is : List Input), Inv s → s.running = true → s.pm = .working → s.pins.stpclk = false →
    s.vccInTolerance = true → s.inputs = (List.replicate n [Input.stpclkAssert .throttling, .step true, .stpclkDeassert]).flatten ++ is →
    ∃ t, runSteps (3 * n) s = .next t ∧ t.pm = .working ∧ t.conn = .connected ∧ t.inputs = is ∧
      t.out = s.out ++ (List.replicate n [OutEvent.cycle .stopGrant, .cycle .connect]).flatten ∧
      t.x86 = s.x86 ∧ t.mem = s.mem ∧ t.cache = s.cache ∧ t.clkCtl = s.clkCtl ∧ t.pins = s.pins ∧
      t.intrPending = s.intrPending

/-! ### Probe -/

/-- 40 R150, 41 R189, R190: the Northbridge connects a disconnected processor that has not been woken: PROCRDY rises, clocks
at full speed, Probe, and no Connect special cycle. In ACPI S1 R149 has software let no probe happen; that such a connect is
refused is the model's choice (log entry 36). Woken before (41 R185 condition 4, R188), it answers alike but enters no Probe: the
power state stays, a Connect special cycle is still owed, and ACPI S1 forbids nothing. -/
def Obligations.NorthbridgeConnectEntersProbe : Prop :=
  ∀ (s : State) (is : List Input) (r : Resting), s.inputs = .connectAssert :: is → s.running = true →
    s.conn = .disconnected → s.pm = r.toPower → s.pins.connect = false →
    let connecting : State := { s with
      inputs := is, conn := .connectPending1, clockDiv := 1
      pins := { s.pins with connect := true, procrdy := true }, out := s.out ++ [OutEvent.procrdy true] }
    let sleepS1 := r = .stopGrant ∧ s.env.stpclkCause = .sleepS1
    (s.wake = false → ¬sleepS1 → step s = .next { connecting with pm := .probe, probeRet := r }) ∧
    (s.wake = false → sleepS1 → step s = .refused .probeInS1) ∧
    (s.wake = true → step s = .next connecting)

/-- 40 R151, 20 R92: on a connected bus, outside ACPI S1, a probe is answered in every power state: its effect on the caches,
and its response; no power or connect state changes, and no register. Whether A20M# acts on its effect is open (92 D7, log entry
62). That it is answered in place in Halt and Stop Grant is
the model's choice under decision 92 D16 (log entry 40). Sent while not connected (41 R192 (d), 95 K8) it is outside the model;
so it is in ACPI S1, where R149 states a duty of software only, by the model's choice (log entry 36). -/
def Obligations.ProbeIsAnswered : Prop :=
  ∀ (s : State) (is : List Input) (p : Opaque), s.inputs = .probe p :: is → s.running = true →
    (s.conn = .connected → s.inS1 = false →
      ∃ e tm, step s = .next { s with
        inputs := is, cache := probeEffect s.cache s.pins.a20m p, out := s.out ++ [OutEvent.probeResponse p], env := e, times := tm }) ∧
    (s.conn ≠ .connected → step s = .refused .probeWhileDisconnected) ∧
    (s.conn = .connected → s.inS1 = true → step s = .refused .probeInS1)

/-- 40 R152: when the probes are serviced, Probe goes back to the state it interrupted; the bus stays connected, and a
CONNECT deassertion is again a disconnect request. The second clause is R153 with decision 92 D17 (the spec's own): what arrived
meanwhile takes effect "when the probe has been serviced" (`serveDeferred`; for one event or edge `EventInProbeAsInRestingState`). That
it does so at `probe_done`, in the order of arrival, is the model's choice (DEDUCED, log entry 24), and where it ends in Working
VCC_CORE has to be within Table 6 (43 R240, 93 U8). -/
def Obligations.ProbeDoneReturns : Prop :=
  ∀ (s : State) (is : List Input), s.inputs = .probeDone :: is → s.running = true → s.pm = .probe →
    let back : State := { s with
      inputs := is, pm := s.probeRet.toPower, env := { s.env with probeOutstanding := false } }
    (s.deferred = [] → step s = .next back) ∧ (s.deferred ≠ [] → step s = comeTo (serveDeferred back))

/-! ### The connect machine -/

/-- 41 R174 (R172, R192 (a)): a CONNECT deassertion on a connected bus is accepted exactly when a Halt or Stop Grant special
cycle invited it, the Northbridge's enable allows it (R172), no probe or data movement is outstanding, and at least eight SYSCLK
periods have passed since the last command, and the Northbridge is not in reset, where it drives CONNECT asserted (70 R457); then the
machine is in `DisconnectPending`, and nothing is sent. The model's readings:
a probe counts as a command (DESIGN CHOICE, log entry 35); the SYSCLK period in force when CONNECT falls counts for all eight
periods (DESIGN CHOICE, log entry 66), and so does the enable in force then (DESIGN CHOICE, log entry 80); a disconnect ends a Probe
in which nothing is outstanding (DEDUCED, log entry 31). -/
def Obligations.DisconnectNeedsInvitation : Prop :=
  ∀ (s : State) (is : List Input), s.inputs = .connectDeassert :: is → s.running = true → s.conn = .connected →
    s.pins.connect = true →
    ((∃ t, step s = .next t) ↔ s.discReq = true ∧ s.disconnectEnabled = true ∧ s.env.probeOutstanding = false ∧
      s.env.dataMoving = false ∧ s.env.nbReset = false ∧ ∀ c, s.times.commandAt = some c → c + 8 * s.times.period ≤ s.times.now) ∧
    (∀ t, step s = .next t → t = { s with
      inputs := is, pm := s.restPm, conn := .disconnectPending, pins := { s.pins with connect := false } })

/-- 41 R185 (condition 3), R175, 40 R134, R136: the processor's own step answers a disconnect request: PROCRDY falls, the bus
is disconnected, the clocks are divided as CLK_Ctl says for Halt or for Stop Grant; by 8 at 2003_1223h (10_state.md R46). From
then on another bus master's access waits for a connect and a probe (20 R93). With the input `step`, or with no input left, but
where STPCLK# asserted in Halt comes first (40 R139: `StpclkInHalt`). -/
def Obligations.ProcessorAcceptsDisconnect : Prop :=
  ∀ (s : State) (is : List Input), s.ownStepNext is → s.running = true → s.conn = .disconnectPending →
    (s.pm = .halt ∨ s.pm = .stopGrant) →
    ∃ d, step s = .next { s with
        inputs := is, conn := .disconnected, pins := { s.pins with procrdy := false }, clockDiv := d
        out := s.out ++ [OutEvent.procrdy false], env := { s.env with probeDue := true } } ∧
      (s.pm = .halt → d = haltDiv s.clkCtl) ∧ (s.pm = .stopGrant → d = sgDiv s.clkCtl) ∧
      (s.clkCtl = 0x20031223#64 → d = 8)

/-- 41 R185 (condition 4, action C), R188: woken while disconnected, the processor's own step raises PROCRDY at full clock
speed; not woken, it waits, and executes nothing. With the input `step`, or with no input left, but where STPCLK# asserted in Halt
comes first (40 R139: `StpclkInHalt`). -/
def Obligations.ProcessorStartsConnect : Prop :=
  ∀ (s : State) (is : List Input), s.ownStepNext is → s.running = true → s.conn = .disconnected →
    (s.wake = true → step s = .next { s with
      inputs := is, conn := .connectPending1, pins := { s.pins with procrdy := true }, clockDiv := 1
      out := s.out ++ [OutEvent.procrdy true] }) ∧
    (s.wake = false → step s = .next { s with inputs := is })

/-- 41 R185 (condition 5), R192 (b), (c): CLKFWDRST is asserted after PROCRDY has been deasserted, never on a bus that is
connected or in `DisconnectPending`; in `ConnectPending1` its late assertion is accepted (the model's choice, log entry 64). Its
deassertion moves the connect on, and is accepted only with CONNECT asserted. -/
def Obligations.ClkfwdrstOrder : Prop :=
  ∀ (s : State) (is : List Input), s.running = true →
    (s.inputs = .clkfwdrstAssert :: is → s.pins.clkfwdrst = false →
      (s.conn = .disconnected ∨ s.conn = .connectPending1 →
        step s = .next { s with inputs := is, pins := { s.pins with clkfwdrst := true } }) ∧
      (s.conn ≠ .disconnected → s.conn ≠ .connectPending1 → step s = .refused .clkfwdrstOutOfOrder)) ∧
    (s.inputs = .clkfwdrstDeassert :: is → s.conn = .connectPending1 → s.pins.clkfwdrst = true →
      (s.pins.connect = true → step s = .next { s with
        inputs := is, conn := .connectPending2, pins := { s.pins with clkfwdrst := false }
        times := { s.times with clkfwdrstAt := some s.times.now } }) ∧
      (s.pins.connect = false → step s = .refused .connectOutOfOrder))

/-- 41 R185 (condition 6, action B), R190, R191: three SYSCLK periods after CLKFWDRST fell the bus is connected. Without a
wake-up event nothing is sent. After one, the Connect special cycle is sent once, and the pending rule completes: from Halt,
Working and the latched events (40 R138); from Stop Grant with its special cycle owed, that cycle (R139); from Stop Grant
entered from Working, Working and the latched events (R142); from Stop Grant entered from Halt, the Halt special cycle and
Halt (R146), unless something was latched: then the Connect special cycle again, Working and the latched events (R144). What
is delivered acts on registers, memory and caches as `deliverLatched` says, and a latched INTR is acknowledged if it is not masked
at its turn, else it stays pending (R142; `latchedAck`, `LatchedEventsDeliveredInOrder`). Where that ends in Working, VCC_CORE has to be within Table 6 by then (43 R240, 93 U8); a wake-up leaves no
probe due to another bus master (20 R93). With two wake-up events pending it is the present power state's rule that completes (log entry
63); the period in force now counts (log entry 66): the model's choices. -/
def Obligations.ForwardClocksComplete : Prop :=
  ∀ (s : State) (is : List Input) (c : Nat), s.inputs = .fwdclkStart :: is → s.running = true →
    s.conn = .connectPending2 → s.times.clkfwdrstAt = some c → s.times.now ≤ c + 3 * s.times.period →
    s.pm ≠ .working →
    (s.wake = true → (s.pm = .stopGrant ∧ (s.oweSg = true ∨ s.sgFromHalt = true ∧ s.latched.any = false)) ∨
      (passTime (c + 3 * s.times.period - s.times.now) s).vccInTolerance = true) →
    let ack := s.latchedAck
    ∃ t, step s = .next t ∧ t.conn = .connected ∧ t.wake = false ∧ t.pins = s.pins ∧ t.clkCtl = s.clkCtl ∧
      t.env = { s.env with probeDue := s.env.probeDue && !s.wake } ∧ t.times = { s.times with
        now := c + 3 * s.times.period, vccAbove := t.times.vccAbove, vccBelow := t.times.vccBelow } ∧
      let delivered := t.pm = .working ∧ t.latched.any = false ∧ t.x86 = (deliverLatched s).x86 ∧
        t.mem = (deliverLatched s).mem ∧ t.cache = (deliverLatched s).cache ∧ t.intrPending = (deliverLatched s).intrPending
      let kept := t.x86 = s.x86 ∧ t.mem = s.mem ∧ t.cache = s.cache ∧ t.latched = s.latched ∧ t.intrPending = s.intrPending
      (s.wake = false → t.pm = s.pm ∧ t.out = s.out ∧ t.discReq = s.discReq ∧ kept) ∧
      (s.wake = true → s.pm = .halt → delivered ∧ t.out = s.out ++ [OutEvent.cycle .connect] ++ ack) ∧
      (s.wake = true → s.pm = .stopGrant → s.oweSg = true → t.pm = .stopGrant ∧ t.oweSg = false ∧ t.discReq = true ∧
        t.out = s.out ++ [OutEvent.cycle .connect, .cycle .stopGrant] ∧ kept) ∧
      (s.wake = true → s.pm = .stopGrant → s.oweSg = false → s.sgFromHalt = false →
        delivered ∧ t.out = s.out ++ [OutEvent.cycle .connect] ++ ack) ∧
      (s.wake = true → s.pm = .stopGrant → s.oweSg = false → s.sgFromHalt = true → s.latched.any = false →
        t.pm = .halt ∧ t.sgFromHalt = false ∧ t.discReq = true ∧
        t.out = s.out ++ [OutEvent.cycle .connect, .cycle .halt] ∧ kept) ∧
      (s.wake = true → s.pm = .stopGrant → s.oweSg = false → s.sgFromHalt = true → s.latched.any = true →
        delivered ∧ t.discReq = false ∧ t.out = s.out ++ [OutEvent.cycle .connect, .cycle .halt, .cycle .connect] ++ ack)

/-- 41 R180, R181 (Figures 4 and 5; 95 W1, W2): the disconnect in Stop Grant and the connect that leaves it, from every
Working state, whatever was sent before: low power after the fourth event, and at the end Working again, connected, at full
speed, the program's state as it was, while VCC_CORE keeps Table 6 up to the end (43 R240). The special cycles are Stop Grant, then Connect; PROCRDY falls, then rises. -/
def Obligations.StopGrantDisconnectAndReturn : Prop :=
  ∀ (s : State) (is : List Input), Inv s → s.running = true → s.pm = .working → s.pins.stpclk = true →
    s.pins.connect = true → s.env.nbDiscOnSg = true → s.env.probeOutstanding = false → s.env.dataMoving = false →
    s.env.nbReset = false → (∀ c, s.times.commandAt = some c → c + 8 * s.times.period ≤ s.times.now) →
    (passTime (3 * s.times.period) s).vccInTolerance = true →
    s.inputs = ([.step true, .connectDeassert, .step false, .clkfwdrstAssert, .stpclkDeassert, .step false, .connectAssert,
      .clkfwdrstDeassert, .fwdclkStart] : List Input) ++ is →
    (∃ u, runSteps 4 s = .next u ∧ u.lowPower = true ∧ u.pm = .stopGrant ∧ u.clockDiv = sgDiv s.clkCtl ∧
      u.out = s.out ++ [OutEvent.cycle .stopGrant, .procrdy false]) ∧
    (∃ t, runSteps 9 s = .next t ∧ t.pm = .working ∧ t.conn = .connected ∧ t.clockDiv = 1 ∧ t.inputs = is ∧
      t.out = s.out ++ [OutEvent.cycle .stopGrant, .procrdy false, .procrdy true, .cycle .connect] ∧
      t.x86 = s.x86 ∧ t.mem = s.mem ∧ t.cache = s.cache ∧ t.clkCtl = s.clkCtl ∧ t.pins = { s.pins with stpclk := false } ∧
      t.intrPending = s.intrPending)

/-- 41 R188, R193; 40 R138: a wake-up event in a disconnected Halt reaches Working once the Northbridge does its part of the
connect: within five steps, for every kind of event, which is then delivered: registers, memory and caches are what `deliver`
makes of them. VCC_CORE is within Table 6 by then (43 R240). -/
def Obligations.WakeUpReachesWorking : Prop :=
  ∀ (s : State) (is : List Input) (k : Kind) (m : Opaque), Inv s → s.running = true → s.pm = .halt →
    s.conn = .disconnected → s.wake = false → s.pins.clkfwdrst = true → s.deliverable k = true →
    (passTime (3 * s.times.period) s).vccInTolerance = true →
    s.inputs = ([k.input m, .step false, .connectAssert, .clkfwdrstDeassert, .fwdclkStart] : List Input) ++ is →
    ∃ t, runSteps 5 s = .next t ∧ t.pm = .working ∧ t.conn = .connected ∧ t.latched.any = false ∧ t.inputs = is ∧
      t.out = s.out ++ [OutEvent.procrdy true, .cycle .connect] ++ (if k = .intr then [OutEvent.intAck s.env.vector] else []) ∧
      t.pins = { (k.mark s).pins with connect := true, procrdy := true, clkfwdrst := false } ∧
      let v := deliver k m { s with pins := t.pins }
      t.x86 = v.x86 ∧ t.mem = v.mem ∧ t.cache = v.cache

/-- 41 R189, 40 R150 to R152, 95 K3: the Northbridge connects to probe and disconnects again, from a disconnected Halt or Stop
Grant that has not been woken, outside ACPI S1 (40 R149, log entry 36): the same state, disconnected, as before, the clocks divided as
CLK_Ctl says for it (40 R134, R136), with the probe's response and PROCRDY's two edges the only things sent: no Connect special
cycle. Registers, memory, CLK_Ctl and what is latched are as before; the caches are what the probe makes of them. -/
def Obligations.ProbeRoundTrip : Prop :=
  ∀ (s : State) (is : List Input) (p : Opaque) (r : Resting), Inv s → s.running = true → s.pm = r.toPower →
    s.conn = .disconnected → s.wake = false → s.pins.clkfwdrst = true → s.env.dataMoving = false →
    (r = .stopGrant → s.env.stpclkCause ≠ .sleepS1 ∧ s.env.nbDiscOnSg = true) → (r = .halt → s.env.nbDiscOnHalt = true) →
    8 * s.times.period ≤ 160000 →
    s.inputs = ([.connectAssert, .clkfwdrstDeassert, .fwdclkStart, .probe p, .probeDone, .elapse 160000, .connectDeassert,
      .step false] : List Input) ++ is →
    ∃ t, runSteps 8 s = .next t ∧ t.pm = r.toPower ∧ t.conn = .disconnected ∧ t.discReq = true ∧ t.wake = false ∧ t.inputs = is ∧
      t.out = s.out ++ [OutEvent.procrdy true, .probeResponse p, .procrdy false] ∧ t.cache = probeEffect s.cache s.pins.a20m p ∧
      (r = .halt → t.clockDiv = haltDiv s.clkCtl) ∧ (r = .stopGrant → t.clockDiv = sgDiv s.clkCtl) ∧
      t.pins = { s.pins with clkfwdrst := false } ∧ t.x86 = s.x86 ∧ t.mem = s.mem ∧ t.clkCtl = s.clkCtl ∧
      t.latched = s.latched ∧ t.intrPending = s.intrPending ∧ t.sgFromHalt = s.sgFromHalt

/-! ### Reset and power-up -/

/-- 60 R409, 40 R145, 70 R461, 10_state.md R62 (92 D8, D10): RESET# acts at once in every power and connect state: in reset,
the bookkeeping cleared, nothing latched, pending or waiting for a probe, nothing sent; the supply, the SIP, memory and the part are as before; the x86 state
is `X86_ISA.reset_state` with the first fetch at 0_FFFF_FFF0h, untranslated (log entry 72). -/
def Obligations.ResetActsInEveryState : Prop :=
  ∀ (s : State) (is : List Input), s.inputs = .resetAssert :: is → s.pins.reset = false →
    ∃ t, step s = .next t ∧ t.rst = .inReset ∧ t.discReq = false ∧
      t.wake = false ∧ t.oweSg = false ∧ t.sgFromHalt = false ∧ t.latched.any = false ∧ t.intrPending = false ∧ t.deferred = [] ∧
      t.out = s.out ∧ t.supply = s.supply ∧ t.sip = s.sip ∧ t.mem = s.mem ∧ t.part = s.part ∧
      t.x86 = { Config.x86ResetState with fetch := 0xFFFFFFF0#64, translating := false } ∧
      t.pins = { s.pins with reset := true, procrdy := t.pins.procrdy }

/-- 70 R461, 41 R194: while not running (unpowered, in reset, during the SIP) the processor's own step does nothing, and an
event on INIT#, SMI#, NMI, INTR or the APIC bus does nothing beyond its pin (log entry 15). -/
def Obligations.NothingRunsOutsideRun : Prop :=
  ∀ (s : State) (is : List Input), s.running = false →
    (∀ r, s.inputs = .step r :: is → step s = .next { s with inputs := is }) ∧
    (s.inputs = [] → step s = .next s) ∧
    (∀ k m, s.inputs = Kind.input k m :: is → step s = .next (k.mark { s with inputs := is }))

/-- 70 R452, R453, R454 (92 D20): PWROK is accepted exactly when RESET# has been asserted for 10 ns, the 3.3 V supply good for
3 ms, VCCA for 5 us, VCC_CORE applied and within 50 mV of 1.65 V, and SYSCLK and PICCLK run; then the PLL clocks the core,
and nothing else changes. The model's choices: the window of R240, whose table is for the Working state, before PWROK (log
entry 37), and PICCLK, which 70 R471 asks for whenever powered, among PWROK's own requirements (log entry 43). -/
def Obligations.PwrokRequirements : Prop :=
  ∀ (s : State) (is : List Input), s.inputs = .pwrokAssert :: is → s.pins.pwrok = false →
    ((∃ t, step s = .next t) ↔ s.pins.reset = true ∧ s.rst = .inReset ∧
      (∃ r, s.times.resetAt = some r ∧ r + 10000 ≤ s.times.now) ∧
      s.supply = .ringOsc ∧ (∃ v, s.times.v33At = some v ∧ v + 3000000000 ≤ s.times.now) ∧
      (∃ v, s.times.vccaAt = some v ∧ v + 5000000 ≤ s.times.now) ∧ 1600 ≤ s.env.vccCoreMv ∧ s.env.vccCoreMv ≤ 1700 ∧
      s.pins.sysclk = true ∧ s.pins.picclk = true) ∧
    (∀ t, step s = .next t → t = { s with
      inputs := is, supply := .pll, pins := { s.pins with pwrok := true }
      times := { s.times with pwrokAt := some s.times.now } })

/-- 70 R455, R457, R462 (92 D20): RESET# may be released exactly when PWROK has been asserted for 1 ms, RESET# for 1 ms, and
NB_RESET# has made CONNECT sampled asserted; then the SIP phase begins (10_state.md R37). NB_RESET# asserted makes CONNECT asserted,
and in no phase of the machine, in reset, in the SIP or running, does CONNECT fall while it is asserted: "a Northbridge in reset drives
CONNECT asserted" (R457). That NB_RESET# comes only while the machine is in reset, and that CONNECT is sampled there whether or not the
processor is powered, are the model's choices (DESIGN CHOICE, log entries 39, 69). -/
def Obligations.ResetReleaseRequirements : Prop :=
  ∀ (s : State) (is : List Input),
    (s.inputs = .resetDeassert :: is → s.pins.reset = true →
      ((∃ t, step s = .next t) ↔ s.supply = .pll ∧ (∃ p, s.times.pwrokAt = some p ∧ p + 1000000000 ≤ s.times.now) ∧
        (∃ r, s.times.resetAt = some r ∧ r + 1000000000 ≤ s.times.now) ∧ s.env.nbResetSeen = true ∧
        s.env.connectSampled = true) ∧
      (∀ t, step s = .next t → t = { s with inputs := is, rst := .sip, pins := { s.pins with reset := false } })) ∧
    (s.inputs = .nbReset true :: is →
      step s = if s.rst = .inReset then .next { s with
          inputs := is, pins := { s.pins with connect := true }
          env := { s.env with nbReset := true, nbResetSeen := true, connectSampled := true } }
        else .refused .nbResetLate) ∧
    (s.inputs = .connectDeassert :: is → s.pins.connect = true → s.env.nbReset = true →
      step s = .refused .connectFellInNbReset)

/-- 70 R465 with decision 92 D9 (the spec's own): the packet ends the SIP phase exactly when it is push-pull and matches
FID[3:0], and VCC_CORE keeps the Working state's Table 6 (43 R240, 93 U8; log entry 37); then the machine runs, Working and
Connected. That the three protocol pins are then at their levels of the Connected
state is the model's reading (DEDUCED, log entry 28). -/
def Obligations.SipStartsTheMachine : Prop :=
  ∀ (s : State) (is : List Input) (cfg : SipConfig), s.inputs = .sipDone cfg :: is →
    ((∃ t, step s = .next t) ↔ s.supply = .pll ∧ s.rst = .sip ∧ cfg.sysPushPull = true ∧
      cfg.forFid = s.part.fid ∧ s.vccInTolerance = true) ∧
    (∀ t, step s = .next t → t.running = true ∧ t.pm = .working ∧ t.conn = .connected ∧ t.sip = cfg ∧
      t.x86 = s.x86 ∧ t.out = s.out ∧ t.mem = s.mem ∧ t.pins.fitConn .connected = true)

/-- 70 R460, R466 (95 Z1; 92 D8): a cold start that keeps the lower bounds brings every part from the unpowered socket to a
running Working state on a connected bus, with the first fetch at 0_FFFF_FFF0h and nothing sent. -/
def Obligations.ColdStartReachesWorking : Prop :=
  ∀ (part : Part) (mv : Int) (d1 d2 : Nat), 1600 ≤ mv → mv ≤ 1700 → 3000000000 ≤ d1 → 1000000000 ≤ d2 →
    ∃ t, runSteps 12 { State.unpowered with
        part := part
        inputs := [.resetAssert, .nbReset true, .supply33Good, .vccaGood, .vccCoreOn mv, .sysclk true, .elapse d1,
          .pwrokAssert, .elapse d2, .nbReset false, .resetDeassert, .sipDone ⟨true, part.fid⟩] } = .next t ∧
      t.running = true ∧ t.pm = .working ∧ t.conn = .connected ∧ t.out = [] ∧ t.inputs = [] ∧
      fetchAddr t 0 = some 0xFFFFFFF0

/-- 70 R458, R459 (93 U11): the chipset reads the part's FID code once 100 ns have passed since PWROK and since RESET#, up to
the end of the SIP phase. -/
def Obligations.FidValidAfterTvalid : Prop :=
  ∀ (s : State) (is : List Input) (p r : Nat), s.inputs = .sampleFid :: is → s.supply = .pll → s.rst ≠ .run →
    s.times.pwrokAt = some p → s.times.resetAt = some r → p + 100000 ≤ s.times.now → r + 100000 ≤ s.times.now →
    step s = .next { s with inputs := is, env := { s.env with fidSample := some s.part.fid } }

/-- 70 R470, R471, 40 R131: neither SYSCLK nor PICCLK may stop while the processor is powered. SYSCLK keeps Table 9 as long
(R470; 43 R252): a change of its period is accepted exactly when the new one is at least 6 ns and at most 50 MHz's, within 300 ps of
the old one, between the specified one and that of 99% of its frequency, and, where the period turns from growing to shrinking or
back, no sooner than 5 us after the last turn: the model's reading of "at a maximum rate of 100 kHz" (log entry 75); that the
stability bounds one change is log entry 37's. -/
def Obligations.ClocksMustNotStop : Prop :=
  ∀ (s : State) (is : List Input), s.supply ≠ .off →
    (s.inputs = .sysclk false :: is → s.pins.sysclk = true → step s = .refused .clockStopped) ∧
    (s.inputs = .picclk false :: is → s.pins.picclk = true → step s = .refused .clockStopped) ∧
    (∀ ps, s.inputs = .sysclkPeriod ps :: is → s.pins.sysclk = true →
      let p := s.times.period
      let turn := if s.times.lengthening then ps < p else p < ps
      ((∃ t, step s = .next t) ↔ 6000 ≤ ps ∧ ps ≤ 20000 ∧ ps ≤ p + 300 ∧ p ≤ ps + 300 ∧
        s.times.nominal ≤ ps ∧ 99 * ps ≤ 100 * s.times.nominal ∧
        (turn → ∀ c, s.times.turnedAt = some c → c + 5000000 ≤ s.times.now)) ∧
      (∀ t, step s = .next t → t = { s with inputs := is, times := { s.times with
        period := ps, lengthening := if turn then !s.times.lengthening else s.times.lengthening
        turnedAt := if turn then some s.times.now else s.times.turnedAt } }))

/-- 70 R476 (93 U4): the assertion of a pin of the Southbridge group for `d` picoseconds. At least TBIT long and at least TRPT
after the pin's last assertion, on a bus that is not disconnected, it is its event, after TBIT of it, then its release. A shorter
one, or one within TRPT of the last, is that, or is lost; on a disconnected bus, where TRPT is longer by an unstated amount, any
assertion may be. Seen or lost, it is the last assertion from then on, and its time passes. Three points are the model's choices: TRPT
counts from assertion to assertion, captured or not (log entry 41), and is the one of the connect state in which the later one begins
(DESIGN CHOICE, log entry 89); and a captured assertion is one step, its event and its release
with no instruction boundary between, so that in Working a pulse of STPCLK#, however long, never leads to Stop Grant (DESIGN CHOICE,
unsafe: log entry 85; the edges as two inputs, with steps between, are the other case). -/
def Obligations.CaptureRule : Prop :=
  ∀ (s : State) (is : List Input) (p : EventPin) (d : Nat), s.inputs = .pulse p d :: is → s.level p = false →
    let u : State := { s with inputs := is }
    let seen := fun v : State => andThen (letPass (min d 20000) v) fun v =>
      andThen (onAssertPin p v) fun v => andThen (letPass (d - 20000) (noteAssert p s.times.now v)) (onRelease p)
    let perhaps := step s = seen { u with free := s.free + 1 } ∨
      step s = letPass d (noteAssert p s.times.now { u with free := s.free + 1 })
    (20000 ≤ d → s.conn ≠ .disconnected → (∀ l, s.lastAssert p = some l → l + 40000 ≤ s.times.now) → step s = seen u) ∧
    ((d < 20000 ∨ ∃ l, s.lastAssert p = some l ∧ s.times.now < l + 40000) → perhaps) ∧
    (s.conn = .disconnected → step s = seen u ∨ perhaps)

/-- 43 R232, R238, R240, R241, R268, 45 R341, R346, R367, 70 R468 (93 U8, U9): what is outside the model: a die above 85 °C in
operation, or when VCC_CORE is applied, by whichever input (the temperature last reported: log entry 77); a pin active that the board
must tie off; a voltage below the absolute minimum, at every pin that is not isolated; VCC_CORE or a signal pin above 2.20 V; VCCA
above 3.25 V, and while the processor is powered outside 2.25 to 2.75 V; FID[3:0] above 2.5 V without isolation, VID[4:0] above
5.25 V, FSB_Sense[1:0] above 3.3 V, an APIC pin above 2.625 V (that a pin with a maximum of its own is held to that one is log entry
67). And Table 6: from no state that keeps it does a step lead to a Working state in which VCC_CORE is outside it, however Working is
reached; an excursion's time counts from its beginning, before Working too (DESIGN CHOICE, log entry 90). And 10_state.md R36: every step keeps the supply `Off` exactly while VCC_CORE is not applied (at 0 mV or less: log entry
82). -/
def Obligations.PlatformViolationsRefused : Prop :=
  ∀ (s : State) (is : List Input),
    (∀ c, s.inputs = .dieTemp c :: is → s.supply ≠ .off → 85 < c → step s = .refused .temperatureOutOfRange) ∧
    (∀ mv t, s.inputs = .vccCoreOn mv :: is → 85 < s.env.dieC → step s ≠ .next t) ∧
    (∀ mv d t, s.inputs = .rail .vccCore mv d :: is → s.supply = .off → 0 < mv → 85 < s.env.dieC → step s ≠ .next t) ∧
    (∀ x, s.inputs = .tieOff x :: is → step s = .refused (.tieOffViolated x)) ∧
    (∀ r mv d, s.inputs = .rail r mv d :: is →
      r ≠ .fidPullupIsolated ∧ mv < -500 ∨ (r = .vccCore ∨ r = .signalPin) ∧ 2200 < mv ∨
        r = .vcca ∧ (3250 < mv ∨ s.supply ≠ .off ∧ (mv < 2250 ∨ 2750 < mv)) ∨
        r = .fidPullup ∧ 2500 < mv ∨ r = .vidPullup ∧ 5250 < mv ∨ r = .fsbSensePullup ∧ 3300 < mv ∨
        r = .apicPin ∧ 2625 < mv →
      step s = .refused (.voltageOutOfRange r)) ∧
    (∀ t, s.vccCoreOk = true → step s = .next t → t.vccCoreOk = true) ∧
    (∀ t, (s.supply = .off ↔ s.env.vccCoreMv ≤ 0) → step s = .next t → (t.supply = .off ↔ t.env.vccCoreMv ≤ 0))

/-! ### Constants of the part -/

/-- 45 R340, R355, R346: the code tables. For every FID code but 0011 the ratio is 5 + ((f - 4) mod 16) / 2; for every
VID code below 31 the voltage is 1.850 V less 25 mV a step (two rows are the spec's interpolation, 91 N11), and code 31 is
"No CPU"; FSB_Sense 11 is 133 MHz, 01 is 166 MHz, 00 and 10 are RESERVED. 44 R296, R297, 00 R3: what each product carries on its
straps is what the tables say of it, and its ordering part number decodes to it; the per-product codes are the spec's derivation
(95 V-FID, V-VID, V-FSB). 45 R341, R346, R355: at the pins a FID bit of 1 is released and 0 driven Low; VID[3] is open and the other
four grounded; FSB_Sense[1] is grounded through 1 kΩ and FSB_Sense[0] open. -/
def Obligations.StrapCodes : Prop :=
  (∀ f : BitVec 4, f ≠ 0b0011#4 → fidRatio f = some (.exactly (10 + (f - 4).toNat))) ∧
  fidRatio 0b0011#4 = some (.atLeast 25) ∧
  (∀ v : BitVec 5, v.toNat < 31 → vidMillivolts v = some (1850 - 25 * v.toNat)) ∧ vidMillivolts 0b11111#5 = none ∧
  fsbSenseMHz 0b11#2 = some 133 ∧ fsbSenseMHz 0b01#2 = some 166 ∧ fsbSenseMHz 0b00#2 = none ∧ fsbSenseMHz 0b10#2 = none ∧
  (∀ p : Part,
    fidOfRatio p.ratioHalves = some p.fid ∧ vidMillivolts p.vid = some 1650 ∧ fsbSenseMHz p.fsbSense = some 166 ∧
    Package.decodeOpn (Package.Opn.render ⟨p⟩) = some (Package.product p) ∧
    (Package.product p).package = .opga ∧ (Package.product p).sysclkCentiMHz = 16667 ∧
    (Package.product p).coreMv = 1650 ∧ (Package.product p).l2Kb = l2Kb ∧
    (Electrical.operatingPoint p).dieMaxC = (Package.product p).dieMaxC ∧
    (∀ b : Fin 4, p.strapPin (.fid b) = some (if p.fid.getLsbD b.val then .openCircuit else .drivenLow)) ∧
    (∀ b : Fin 5, p.strapPin (.vid b) = some (if b = 3 then .openCircuit else .grounded)) ∧
    p.strapPin (.fsbSense 1) = some (.groundedThrough 1000) ∧ p.strapPin (.fsbSense 0) = some .openCircuit)

/-- 46 R382: the counts of the pin map. -/
def Obligations.PinMapCounts : Prop :=
  pinMap.length = 464 ∧ (pinsOf .vccCore).length = 101 ∧ (pinsOf .vss).length = 101 ∧ (pinsOf .nc).length = 75 ∧
  (pinsOf .key).length = 16 ∧ pinsOf .noPin = [(.a, 1), (.an, 1)] ∧ pinsOf .amdPin = [(.ah, 6)] ∧
  (pinMap.filter fun p => decide (p.info.signal ∉ [.vccCore, .vss, .nc, .key, .noPin, .amdPin])).length = 168 ∧
  (pinMap.filter fun p => !p.info.signal.unpinned).length = 461 ∧ Package.tablePinCount = 453

/-! ### The whole machine -/

/-- The invariant of Safety.lean is kept by every step, from every state that has it: 40 R143, R157 (a) to (c), 10_state.md
R40 to R45, 41 R184, R190, 40 R153 (something waits only while a probe is being serviced), 70 R457 (a Northbridge in reset drives CONNECT
asserted), memory's canonical form, and the organisation of the caches and TLBs (20 R94, 10_state.md R58). -/
def Obligations.InvariantKept : Prop :=
  ∀ s t : State, Inv s → step s = .next t → Inv t

/-- The state after reset, and the unpowered machine, have the invariant, and keep Table 6 (43 R240). -/
def Obligations.InvariantAtReset : Prop :=
  (Inv State.reset ∧ State.reset.vccCoreOk = true) ∧ (Inv State.unpowered ∧ State.unpowered.vccCoreOk = true)

/-- 40 R157 (f), R132, 60 R429: outside Working no instruction executes. A step from a power state other than Working that
does not end in Working and does not reset leaves the x86 state, CLK_Ctl, the part and the SIP as they were. -/
def Obligations.NothingExecutesOutsideWorking : Prop :=
  ∀ s t : State, Inv s → s.pm ≠ .working → step s = .next t → t.pm ≠ .working →
    t.x86 = s.x86 ∧ t.clkCtl = s.clkCtl ∧ t.part = s.part ∧ t.sip = s.sip

/-- 10_state.md R34: `S.out` is a log: every step, RESET# included (92 D10), keeps what was sent and adds at its end. -/
def Obligations.OutputOnlyGrows : Prop :=
  ∀ s t : State, step s = .next t → ∃ es, t.out = s.out ++ es

/-- 40 R157 (d): a step that sends the Stop Grant special cycle is one with STPCLK# asserted, before the step or by it, and
that assertion is not yet answered: the processor is not in Stop Grant, or still owes the cycle. An edge of STPCLK# that waited for a
probe counts when the probe has been serviced (R153, 92 D17): its assertion as one by that step, its deassertion as the end of the Stop
Grant before it. -/
def Obligations.StopGrantCycleNeedsStpclk : Prop :=
  ∀ s t : State, Inv s → step s = .next t → s.cycles.count .stopGrant < t.cycles.count .stopGrant →
    let served := fun d : Deferred => s.inputs.head? = some .probeDone ∧ d ∈ s.deferred
    (s.pins.stpclk = true ∨ (∃ c, s.inputs.head? = some (.stpclkAssert c)) ∨
      (∃ d, s.inputs.head? = some (.pulse .stpclk d)) ∨ served (.stpclk true)) ∧
    (s.restPm ≠ .stopGrant ∨ s.oweSg = true ∨ served (.stpclk false))

/-- 40 R157 (e), 41 R190: exactly one Connect special cycle for each Halt or Stop Grant special cycle. What a step sends keeps
the balance: the invitations sent, less the Connect special cycles sent, is the one that is still open (a disconnect invited, or a
Connect special cycle owed) or nothing; and where instructions execute nothing is open. RESET# clears the account (92 D10), so
a step that leaves the run phase is none of these. -/
def Obligations.OneConnectCyclePerInvitation : Prop :=
  ∀ s t : State, Inv s → step s = .next t → (s.rst = .run → t.rst = .run) →
    let invitations := fun u : State => u.cycles.count .halt + u.cycles.count .stopGrant
    let unanswered := fun u : State => if u.discReq || u.wake then 1 else 0
    invitations t + s.cycles.count .connect + unanswered s =
        invitations s + t.cycles.count .connect + unanswered t ∧
      (s.pm = .working → unanswered s = 0)

/-- 41 R185 (conditions 3 and 4), R188, R189: the low-power state is entered only by the processor's own answer to a disconnect
request (condition 3), and left only by the processor's reaction to a wake-up event (condition 4 with `S.wake`, R188), by CONNECT
(condition 4, R189), or by RESET# (40 R145, 70 R461), an assertion of it that the capture rule let through (70 R476) among
them. -/
def Obligations.LowPowerEntryAndExit : Prop :=
  ∀ s t : State, Inv s → step s = .next t →
    (s.lowPower = false → t.lowPower = true →
      s.conn = .disconnectPending ∧ (s.inputs = [] ∨ ∃ r, s.inputs.head? = some (.step r))) ∧
    (s.lowPower = true → t.lowPower = false →
      (s.wake = true ∧ (s.inputs = [] ∨ ∃ r, s.inputs.head? = some (.step r))) ∨
        s.inputs.head? = some .connectAssert ∨ s.inputs.head? = some .resetAssert ∨
        ∃ d, s.inputs.head? = some (.pulse .reset d))
end

