-- ==== Sys2Proof/Laws/Memory.lean ====
section
/-! SUPPORT. Laws/Memory.lean: the laws of memory: a read after a write, the canonical form, and equal reads make equal
memories. -/

namespace Sys2Proof.Machine

@[simp] theorem Memory.read_nil (a : Nat) : Memory.read [] a = none := rfl

@[simp] theorem Memory.wf_nil : Memory.wf [] = true := rfl

/-- A write is read back. -/
@[simp] theorem Memory.read_write_same (m : Memory) (a : Nat) (b : Byte) : (m.write a b).read a = some b := by
  induction m with
  | nil => simp [Memory.write, Memory.read]
  | cons c m ih =>
    unfold Memory.write
    split
    · simp [Memory.read]
    · split
      · simp [Memory.read]
      · rename_i h1 h2
        have : c.1 ≠ a := fun h => h2 h.symm
        simp [Memory.read, this, ih]

/-- A write leaves every other address alone. -/
theorem Memory.read_write_other (m : Memory) {a x : Nat} (b : Byte) (h : x ≠ a) : (m.write a b).read x = m.read x := by
  induction m with
  | nil => simp [Memory.write, Memory.read, Ne.symm h]
  | cons c m ih =>
    unfold Memory.write
    split
    · simp [Memory.read, Ne.symm h]
    · split
      · rename_i h1 h2
        have : c.1 ≠ x := fun h' => h (h'.symm.trans h2.symm)
        simp [Memory.read, Ne.symm h, this]
      · simp [Memory.read, ih]

/-- A read after a write, in one equation. -/
theorem Memory.read_write (m : Memory) (a x : Nat) (b : Byte) :
    (m.write a b).read x = if x = a then some b else m.read x := by
  split
  · subst x; simp
  · exact Memory.read_write_other m b ‹_›

/-- The canonical form, one entry at a time. -/
theorem Memory.wf_cons (c : Host.Cell) (m : Memory) :
    Memory.wf (c :: m) = true ↔ (∀ d ∈ m.head?, c.1 < d.1) ∧ m.wf = true := by
  cases m with
  | nil => simp [Memory.wf]
  | cons d m => simp [Memory.wf]

/-- The first entry after a write. -/
theorem Memory.head_write (m : Memory) (a : Nat) (b : Byte) :
    ∀ d ∈ (m.write a b).head?, d.1 = a ∨ ∃ c ∈ m.head?, d.1 = c.1 := by
  cases m with
  | nil => simp [Memory.write]
  | cons c m =>
    unfold Memory.write
    split
    · simp
    · split <;> simp

/-- A write keeps the canonical form. -/
theorem Memory.wf_write (m : Memory) (a : Nat) (b : Byte) (h : m.wf = true) : (m.write a b).wf = true := by
  induction m with
  | nil => simp [Memory.write, Memory.wf]
  | cons c m ih =>
    rw [Memory.wf_cons] at h
    unfold Memory.write
    split
    · rename_i h1
      rw [Memory.wf_cons, Memory.wf_cons]
      exact ⟨by simpa using h1, h⟩
    · split
      · rename_i h1 h2
        rw [Memory.wf_cons]
        exact ⟨fun d hd => by have := h.1 d hd; simp_all, h.2⟩
      · rename_i h1 h2
        rw [Memory.wf_cons]
        refine ⟨fun d hd => ?_, ih h.2⟩
        rcases Memory.head_write m a b d hd with h' | ⟨e, he, h'⟩
        · omega
        · rw [h']; exact h.1 e he

/-- The canonical form: addresses strictly rise throughout. -/
theorem Memory.wf_iff_pairwise (m : Memory) : m.wf = true ↔ m.Pairwise fun c d => c.1 < d.1 := by
  induction m with
  | nil => simp
  | cons c m ih =>
    rw [Memory.wf_cons, ih, List.pairwise_cons]
    refine and_congr_left fun h => ?_
    cases m with
    | nil => simp
    | cons d m =>
      simp only [List.head?_cons, Option.mem_some_iff, forall_eq', List.mem_cons, forall_eq_or_imp]
      refine ⟨fun hcd => ⟨hcd, fun e he => ?_⟩, fun h => h.1⟩
      exact Nat.lt_trans hcd ((List.pairwise_cons.1 h).1 e he)

/-- Part of a memory in canonical form is in canonical form. -/
theorem Memory.wf_filter (m : Memory) (p : Host.Cell → Bool) (h : m.wf = true) : Memory.wf (m.filter p) = true := by
  rw [Memory.wf_iff_pairwise] at *
  exact h.filter p

/-- What of memory A20M# leaves visible is in canonical form. -/
theorem wf_visible (a20m : Bool) (m : Memory) (h : m.wf = true) : (visible a20m m).wf = true := by
  unfold visible
  split
  · exact Memory.wf_filter _ _ h
  · exact h

/-- A read of part of a memory that goes by addresses alone. -/
theorem Memory.read_filter (m : Memory) (p : Nat → Bool) (x : Nat) :
    Memory.read (m.filter fun c => p c.1) x = if p x then m.read x else none := by
  induction m with
  | nil => simp
  | cons c m ih =>
    rw [List.filter_cons]
    by_cases hc : c.1 = x
    · subst hc
      split <;> simp_all [Memory.read]
    · split <;> simp_all [Memory.read]

/-- A read of two memories, one before the other. -/
theorem Memory.read_append (m n : Memory) (x : Nat) : Memory.read (m ++ n) x = (m.read x).or (n.read x) := by
  induction m with
  | nil => simp
  | cons c m ih =>
    simp only [List.cons_append, Memory.read]
    split
    · rfl
    · exact ih

/-- A read of what A20M# leaves visible: nothing at an address with bit 20 set, memory's byte elsewhere (20_memory.md R91). -/
theorem read_visible (a20m : Bool) (m : Memory) (x : Nat) :
    (visible a20m m).read x = if a20m && x.testBit 20 then none else m.read x := by
  cases a20m
  · simp [visible]
  · rw [visible, if_pos rfl, Memory.read_filter m (fun a => !a.testBit 20) x]
    cases x.testBit 20 <;> rfl

/-- A read of what A20M# hides. -/
theorem read_hidden (a20m : Bool) (m : Memory) (x : Nat) :
    (hidden a20m m).read x = if a20m && x.testBit 20 then m.read x else none := by
  cases a20m
  · simp [hidden]
  · rw [hidden, if_pos rfl, Memory.read_filter m (fun a => a.testBit 20) x, Bool.true_and]

/-- MemWrite keeps the canonical form. -/
theorem wf_memWrite (m : Memory) (a20m : Bool) (a : Addr) (n v : Nat) (h : m.wf = true) :
    (memWrite m a20m a n v).wf = true := by
  induction n generalizing m a v with
  | zero => exact h
  | succ n ih => exact ih _ _ _ (Memory.wf_write _ _ _ h)

/-- The writes of a call of `X86_ISA` keep the canonical form. -/
theorem wf_storeAll (a20m : Bool) (ws : List Store) (m : Memory) (h : m.wf = true) : (storeAll a20m ws m).wf = true := by
  induction ws generalizing m with
  | nil => exact h
  | cons w ws ih => exact ih _ (wf_memWrite _ _ _ _ _ h)

/-- `PA_WIDTH` is at least 33 (92 D6). -/
theorem paWidth_ge : 33 ≤ Config.paWidth := Nat.le_add_right _ _

/-- `PA_WIDTH` is at most the container's width (log entry 5). -/
theorem paWidth_le : Config.paWidth ≤ 64 := by
  have := Config.paWidthExtra.isLt
  unfold Config.paWidth
  omega

/-- Narrowing is reduction modulo `2 ^ PA_WIDTH`. -/
theorem narrow_eq (a : Addr) : narrow a = a.toNat % 2 ^ Config.paWidth := by
  unfold narrow
  split
  · rw [Nat.mod_eq_of_lt]
    exact Nat.lt_of_lt_of_le ‹_› (Nat.pow_le_pow_right (by decide) paWidth_ge)
  · rfl

/-- A physical address has `PA_WIDTH` bits. -/
theorem narrow_lt (a : Addr) : narrow a < 2 ^ Config.paWidth := by
  rw [narrow_eq]; exact Nat.mod_lt _ (Nat.two_pow_pos _)

/-- Below 2^33 narrowing changes nothing, whatever `PA_WIDTH` is. -/
theorem narrow_of_lt (a : Addr) (h : a.toNat < 2 ^ 33) : narrow a = a.toNat := if_pos h

/-- With A20M# deasserted the physical address is the address. -/
@[simp] theorem phys_false (a : Addr) : phys false a = narrow a := rfl

/-- An address with no byte among those a MemWrite goes to keeps its byte. -/
theorem memWrite_read_other (m : Memory) (a20m : Bool) (a : Addr) (n v x : Nat)
    (h : ∀ k < n, phys a20m (a + BitVec.ofNat 64 k) ≠ x) : (memWrite m a20m a n v).read x = m.read x := by
  induction n generalizing m a v with
  | zero => rfl
  | succ n ih =>
    unfold memWrite
    rw [ih, Memory.read_write_other]
    · have := h 0 (by omega)
      simpa using Ne.symm this
    · intro k hk
      have := h (k + 1) (by omega)
      rwa [show a + 1 + BitVec.ofNat 64 k = a + BitVec.ofNat 64 (k + 1) by
        rw [BitVec.add_assoc]; congr 1; apply BitVec.eq_of_toNat_eq; simp; omega]

end Sys2Proof.Machine
end

