-- ==== Sys2Proof/Laws/Bus.lean ====
section
/-! SUPPORT. Laws/Bus.lean: what a data beat of the bus writes. -/

namespace Sys2Proof.Machine.Bus

/-- What the first `n` bytes of a beat leave at an address. -/
theorem Beat.read_writeFirst (b : Beat) (m : Memory) (n x : Nat) :
    (b.writeFirst m n).read x =
      if b.address ≤ x ∧ x < b.address + n ∧ b.enables.getLsbD (x - b.address) = true then some (b.byte (x - b.address))
      else m.read x := by
  induction n with
  | zero => simp [Beat.writeFirst]; omega
  | succ n ih =>
    have hx : x = b.address + n ∨ x ≠ b.address + n := eq_or_ne _ _
    unfold Beat.writeFirst
    rcases hx with rfl | hx
    · split <;> simp_all
    · split
      · rw [Memory.read_write_other _ _ hx, ih]
        congr 1
        simp only [eq_iff_iff]
        constructor <;> rintro ⟨h1, h2, h3⟩ <;> exact ⟨h1, by omega, h3⟩
      · rw [ih]
        congr 1
        simp only [eq_iff_iff]
        constructor <;> rintro ⟨h1, h2, h3⟩ <;> exact ⟨h1, by omega, h3⟩

/-- A beat writes exactly its enabled bytes (20_memory.md R84). -/
theorem Beat.read_write (b : Beat) (m : Memory) (x : Nat) :
    (b.write m).read x =
      if granule x = b.address ∧ b.enables.getLsbD (x - b.address) = true then some (b.byte (x - b.address))
      else m.read x := by
  unfold Beat.write
  rw [Beat.read_writeFirst]
  congr 1
  simp only [eq_iff_iff, granule, Beat.address, granuleBytes]
  constructor
  · rintro ⟨h1, h2, h3⟩
    exact ⟨by omega, h3⟩
  · rintro ⟨h1, h2⟩
    exact ⟨by omega, by omega, h2⟩

/-- A beat keeps memory's canonical form. -/
theorem Beat.wf_write (b : Beat) (m : Memory) (h : m.wf = true) : (b.write m).wf = true := by
  have : ∀ n, (b.writeFirst m n).wf = true := by
    intro n
    induction n with
    | zero => exact h
    | succ n ih =>
      unfold Beat.writeFirst
      split
      · exact Memory.wf_write _ _ _ ih
      · exact ih
  exact this _

end Sys2Proof.Machine.Bus
end

