-- ==== Sys2Proof/Laws/Cache.lean ====
section
/-! SUPPORT. Laws/Cache.lean: contents fitted to the caches' organisation have it, and keep everything else. -/

namespace Sys2Proof.Machine

theorem CacheArray.length_cut (cap : Nat) (a : CacheArray) : (a.cut cap).held.length ≤ cap := by
  simp [CacheArray.cut]

/-- Cutting an array keeps it apart from another. -/
theorem CacheArray.apart_cut {a b : CacheArray} (cap : Nat) (h : a.apart b) : (a.cut cap).apart b :=
  fun n hn => h n (List.mem_of_mem_take hn)

/-- What is left without another array is apart from it. -/
theorem CacheArray.apart_without (a b : CacheArray) : (a.without b).apart b := by
  intro n hn
  simpa [CacheArray.without] using (List.mem_filter.1 hn).2

/-- Taking more away keeps it apart. -/
theorem CacheArray.without_apart {a b : CacheArray} (c : CacheArray) (h : a.apart b) : (a.without c).apart b :=
  fun n hn => h n (List.mem_filter.1 hn).1

/-- Fitted contents are organised (20_memory.md R94; 10_state.md R58). -/
theorem Caches.organised_fit (c : Caches) : c.fit.Organised where
  l1Instr := CacheArray.length_cut _ _
  l1Data := CacheArray.length_cut _ _
  l2 := CacheArray.length_cut _ _
  dtlb1 := CacheArray.length_cut _ _
  itlb1 := CacheArray.length_cut _ _
  dtlb2 := CacheArray.length_cut _ _
  itlb2 := CacheArray.length_cut _ _
  exclusiveInstr := CacheArray.apart_cut _ (CacheArray.without_apart _ (CacheArray.apart_without _ _))
  exclusiveData := CacheArray.apart_cut _ (CacheArray.apart_without _ _)
  exclusiveDtlb := CacheArray.apart_cut _ (CacheArray.apart_without _ _)
  exclusiveItlb := CacheArray.apart_cut _ (CacheArray.apart_without _ _)

/-- Empty caches are organised. -/
theorem Caches.organised_empty : Caches.empty.Organised := by
  constructor <;> simp [Caches.empty, CacheArray.apart]

@[simp] theorem Caches.fit_code (c : Caches) : c.fit.code = c.code := by unfold Caches.fit; dsimp only

@[simp] theorem Caches.fit_prefetch (c : Caches) : c.fit.prefetch = c.prefetch := by unfold Caches.fit; dsimp only

/-- What A20M# hides is no matter of the organisation. -/
theorem Caches.Organised.under {c : Caches} (h : c.Organised) (a20m : Bool) (old : Caches) : (c.under a20m old).Organised :=
  ⟨h.1, h.2, h.3, h.4, h.5, h.6, h.7, h.8, h.9, h.10, h.11⟩

/-- While A20M# is deasserted, new contents are what they are. -/
@[simp] theorem Caches.under_false (old new : Caches) : new.under false old = new := by
  simp [Caches.under, visible, hidden]

/-- The code bytes after: the new ones where A20M# lets them be addressed, the old ones elsewhere (20_memory.md R91). -/
theorem Caches.read_under (a20m : Bool) (old new : Caches) (x : Nat) :
    (new.under a20m old).code.read x = if a20m && x.testBit 20 then old.code.read x else new.code.read x := by
  rw [show (new.under a20m old).code = visible a20m new.code ++ hidden a20m old.code from rfl, Memory.read_append,
    read_visible, read_hidden]
  split <;> simp_all

theorem organised_probeEffect (c : Caches) (a : Bool) (p : Opaque) : (probeEffect c a p).Organised := Caches.organised_fit _

theorem organised_cachesAfterReset (n : Nat) : (cachesAfterReset n).Organised := Caches.organised_fit _

end Sys2Proof.Machine
end

