-- ==== Sys2Proof/Laws/State.lean ====
section
/-! SUPPORT. Laws/State.lean: what each named update of the state does to each field, one lemma a field. -/

namespace Sys2Proof.Machine

/-! ### `emit` -/

@[simp] theorem emit_part (e : OutEvent) (s : State) : (emit e s).part = s.part := rfl
@[simp] theorem emit_supply (e : OutEvent) (s : State) : (emit e s).supply = s.supply := rfl
@[simp] theorem emit_rst (e : OutEvent) (s : State) : (emit e s).rst = s.rst := rfl
@[simp] theorem emit_pm (e : OutEvent) (s : State) : (emit e s).pm = s.pm := rfl
@[simp] theorem emit_probeRet (e : OutEvent) (s : State) : (emit e s).probeRet = s.probeRet := rfl
@[simp] theorem emit_sgFromHalt (e : OutEvent) (s : State) : (emit e s).sgFromHalt = s.sgFromHalt := rfl
@[simp] theorem emit_conn (e : OutEvent) (s : State) : (emit e s).conn = s.conn := rfl
@[simp] theorem emit_discReq (e : OutEvent) (s : State) : (emit e s).discReq = s.discReq := rfl
@[simp] theorem emit_oweSg (e : OutEvent) (s : State) : (emit e s).oweSg = s.oweSg := rfl
@[simp] theorem emit_wake (e : OutEvent) (s : State) : (emit e s).wake = s.wake := rfl
@[simp] theorem emit_latched (e : OutEvent) (s : State) : (emit e s).latched = s.latched := rfl
@[simp] theorem emit_intrPending (e : OutEvent) (s : State) : (emit e s).intrPending = s.intrPending := rfl
@[simp] theorem emit_deferred (e : OutEvent) (s : State) : (emit e s).deferred = s.deferred := rfl
@[simp] theorem emit_clkCtl (e : OutEvent) (s : State) : (emit e s).clkCtl = s.clkCtl := rfl
@[simp] theorem emit_clockDiv (e : OutEvent) (s : State) : (emit e s).clockDiv = s.clockDiv := rfl
@[simp] theorem emit_sip (e : OutEvent) (s : State) : (emit e s).sip = s.sip := rfl
@[simp] theorem emit_x86 (e : OutEvent) (s : State) : (emit e s).x86 = s.x86 := rfl
@[simp] theorem emit_cache (e : OutEvent) (s : State) : (emit e s).cache = s.cache := rfl
@[simp] theorem emit_out (e : OutEvent) (s : State) : (emit e s).out = s.out ++ [e] := rfl
@[simp] theorem emit_mem (e : OutEvent) (s : State) : (emit e s).mem = s.mem := rfl
@[simp] theorem emit_pins (e : OutEvent) (s : State) : (emit e s).pins = s.pins := rfl
@[simp] theorem emit_env (e : OutEvent) (s : State) : (emit e s).env = s.env := rfl
@[simp] theorem emit_times (e : OutEvent) (s : State) : (emit e s).times = s.times := rfl
@[simp] theorem emit_inputs (e : OutEvent) (s : State) : (emit e s).inputs = s.inputs := rfl
@[simp] theorem emit_free (e : OutEvent) (s : State) : (emit e s).free = s.free := rfl

/-! ### `emitCycle` -/

@[simp] theorem emitCycle_part (k : Cycle) (s : State) : (emitCycle k s).part = s.part := rfl
@[simp] theorem emitCycle_supply (k : Cycle) (s : State) : (emitCycle k s).supply = s.supply := rfl
@[simp] theorem emitCycle_rst (k : Cycle) (s : State) : (emitCycle k s).rst = s.rst := rfl
@[simp] theorem emitCycle_pm (k : Cycle) (s : State) : (emitCycle k s).pm = s.pm := rfl
@[simp] theorem emitCycle_probeRet (k : Cycle) (s : State) : (emitCycle k s).probeRet = s.probeRet := rfl
@[simp] theorem emitCycle_sgFromHalt (k : Cycle) (s : State) : (emitCycle k s).sgFromHalt = s.sgFromHalt := rfl
@[simp] theorem emitCycle_conn (k : Cycle) (s : State) : (emitCycle k s).conn = s.conn := rfl
@[simp] theorem emitCycle_discReq (k : Cycle) (s : State) : (emitCycle k s).discReq = s.discReq := rfl
@[simp] theorem emitCycle_oweSg (k : Cycle) (s : State) : (emitCycle k s).oweSg = s.oweSg := rfl
@[simp] theorem emitCycle_wake (k : Cycle) (s : State) : (emitCycle k s).wake = s.wake := rfl
@[simp] theorem emitCycle_latched (k : Cycle) (s : State) : (emitCycle k s).latched = s.latched := rfl
@[simp] theorem emitCycle_intrPending (k : Cycle) (s : State) : (emitCycle k s).intrPending = s.intrPending := rfl
@[simp] theorem emitCycle_deferred (k : Cycle) (s : State) : (emitCycle k s).deferred = s.deferred := rfl
@[simp] theorem emitCycle_clkCtl (k : Cycle) (s : State) : (emitCycle k s).clkCtl = s.clkCtl := rfl
@[simp] theorem emitCycle_clockDiv (k : Cycle) (s : State) : (emitCycle k s).clockDiv = s.clockDiv := rfl
@[simp] theorem emitCycle_sip (k : Cycle) (s : State) : (emitCycle k s).sip = s.sip := rfl
@[simp] theorem emitCycle_x86 (k : Cycle) (s : State) : (emitCycle k s).x86 = s.x86 := rfl
@[simp] theorem emitCycle_cache (k : Cycle) (s : State) : (emitCycle k s).cache = s.cache := rfl
@[simp] theorem emitCycle_out (k : Cycle) (s : State) : (emitCycle k s).out = s.out ++ [.cycle k] := rfl
@[simp] theorem emitCycle_mem (k : Cycle) (s : State) : (emitCycle k s).mem = s.mem := rfl
@[simp] theorem emitCycle_pins (k : Cycle) (s : State) : (emitCycle k s).pins = s.pins := rfl
@[simp] theorem emitCycle_env (k : Cycle) (s : State) : (emitCycle k s).env = s.env := rfl
@[simp] theorem emitCycle_times (k : Cycle) (s : State) : (emitCycle k s).times = s.times := rfl
@[simp] theorem emitCycle_inputs (k : Cycle) (s : State) : (emitCycle k s).inputs = s.inputs := rfl
@[simp] theorem emitCycle_free (k : Cycle) (s : State) : (emitCycle k s).free = s.free := rfl

/-! ### `applyEffect` -/

@[simp] theorem applyEffect_part (e : X86Effect) (s : State) : (applyEffect e s).part = s.part := rfl
@[simp] theorem applyEffect_supply (e : X86Effect) (s : State) : (applyEffect e s).supply = s.supply := rfl
@[simp] theorem applyEffect_rst (e : X86Effect) (s : State) : (applyEffect e s).rst = s.rst := rfl
@[simp] theorem applyEffect_pm (e : X86Effect) (s : State) : (applyEffect e s).pm = s.pm := rfl
@[simp] theorem applyEffect_probeRet (e : X86Effect) (s : State) : (applyEffect e s).probeRet = s.probeRet := rfl
@[simp] theorem applyEffect_sgFromHalt (e : X86Effect) (s : State) : (applyEffect e s).sgFromHalt = s.sgFromHalt := rfl
@[simp] theorem applyEffect_conn (e : X86Effect) (s : State) : (applyEffect e s).conn = s.conn := rfl
@[simp] theorem applyEffect_discReq (e : X86Effect) (s : State) : (applyEffect e s).discReq = s.discReq := rfl
@[simp] theorem applyEffect_oweSg (e : X86Effect) (s : State) : (applyEffect e s).oweSg = s.oweSg := rfl
@[simp] theorem applyEffect_wake (e : X86Effect) (s : State) : (applyEffect e s).wake = s.wake := rfl
@[simp] theorem applyEffect_latched (e : X86Effect) (s : State) : (applyEffect e s).latched = s.latched := rfl
@[simp] theorem applyEffect_intrPending (e : X86Effect) (s : State) : (applyEffect e s).intrPending = s.intrPending := rfl
@[simp] theorem applyEffect_deferred (e : X86Effect) (s : State) : (applyEffect e s).deferred = s.deferred := rfl
@[simp] theorem applyEffect_clkCtl (e : X86Effect) (s : State) : (applyEffect e s).clkCtl = s.clkCtl := rfl
@[simp] theorem applyEffect_clockDiv (e : X86Effect) (s : State) : (applyEffect e s).clockDiv = s.clockDiv := rfl
@[simp] theorem applyEffect_sip (e : X86Effect) (s : State) : (applyEffect e s).sip = s.sip := rfl
@[simp] theorem applyEffect_x86 (e : X86Effect) (s : State) : (applyEffect e s).x86 = e.x86 := rfl
@[simp] theorem applyEffect_cache (e : X86Effect) (s : State) : (applyEffect e s).cache = e.caches.fit.under s.pins.a20m s.cache := rfl
@[simp] theorem applyEffect_out (e : X86Effect) (s : State) : (applyEffect e s).out = s.out := rfl
@[simp] theorem applyEffect_mem (e : X86Effect) (s : State) : (applyEffect e s).mem = storeAll s.pins.a20m e.stores s.mem := rfl
@[simp] theorem applyEffect_pins (e : X86Effect) (s : State) : (applyEffect e s).pins = s.pins := rfl
@[simp] theorem applyEffect_env (e : X86Effect) (s : State) : (applyEffect e s).env = s.env := rfl
@[simp] theorem applyEffect_times (e : X86Effect) (s : State) : (applyEffect e s).times = s.times := rfl
@[simp] theorem applyEffect_inputs (e : X86Effect) (s : State) : (applyEffect e s).inputs = s.inputs := rfl
@[simp] theorem applyEffect_free (e : X86Effect) (s : State) : (applyEffect e s).free = s.free + 1 := rfl

/-! ### `decidedByX86` -/

@[simp] theorem decidedByX86_part (i : Instr) (s : State) : (decidedByX86 i s).part = s.part := rfl
@[simp] theorem decidedByX86_supply (i : Instr) (s : State) : (decidedByX86 i s).supply = s.supply := rfl
@[simp] theorem decidedByX86_rst (i : Instr) (s : State) : (decidedByX86 i s).rst = s.rst := rfl
@[simp] theorem decidedByX86_pm (i : Instr) (s : State) : (decidedByX86 i s).pm = s.pm := rfl
@[simp] theorem decidedByX86_probeRet (i : Instr) (s : State) : (decidedByX86 i s).probeRet = s.probeRet := rfl
@[simp] theorem decidedByX86_sgFromHalt (i : Instr) (s : State) : (decidedByX86 i s).sgFromHalt = s.sgFromHalt := rfl
@[simp] theorem decidedByX86_conn (i : Instr) (s : State) : (decidedByX86 i s).conn = s.conn := rfl
@[simp] theorem decidedByX86_discReq (i : Instr) (s : State) : (decidedByX86 i s).discReq = s.discReq := rfl
@[simp] theorem decidedByX86_oweSg (i : Instr) (s : State) : (decidedByX86 i s).oweSg = s.oweSg := rfl
@[simp] theorem decidedByX86_wake (i : Instr) (s : State) : (decidedByX86 i s).wake = s.wake := rfl
@[simp] theorem decidedByX86_latched (i : Instr) (s : State) : (decidedByX86 i s).latched = s.latched := rfl
@[simp] theorem decidedByX86_intrPending (i : Instr) (s : State) : (decidedByX86 i s).intrPending = s.intrPending := rfl
@[simp] theorem decidedByX86_deferred (i : Instr) (s : State) : (decidedByX86 i s).deferred = s.deferred := rfl
@[simp] theorem decidedByX86_clkCtl (i : Instr) (s : State) : (decidedByX86 i s).clkCtl = s.clkCtl := rfl
@[simp] theorem decidedByX86_clockDiv (i : Instr) (s : State) : (decidedByX86 i s).clockDiv = s.clockDiv := rfl
@[simp] theorem decidedByX86_sip (i : Instr) (s : State) : (decidedByX86 i s).sip = s.sip := rfl
@[simp] theorem decidedByX86_x86 (i : Instr) (s : State) : (decidedByX86 i s).x86 = (Config.x86Decides i s.x86 (busView s)).x86 := rfl
@[simp] theorem decidedByX86_cache (i : Instr) (s : State) : (decidedByX86 i s).cache = (Config.x86Decides i s.x86 (busView s)).caches.fit.under s.pins.a20m s.cache := rfl
@[simp] theorem decidedByX86_out (i : Instr) (s : State) : (decidedByX86 i s).out = s.out := rfl
@[simp] theorem decidedByX86_mem (i : Instr) (s : State) : (decidedByX86 i s).mem = storeAll s.pins.a20m (Config.x86Decides i s.x86 (busView s)).stores s.mem := rfl
@[simp] theorem decidedByX86_pins (i : Instr) (s : State) : (decidedByX86 i s).pins = s.pins := rfl
@[simp] theorem decidedByX86_env (i : Instr) (s : State) : (decidedByX86 i s).env = s.env := rfl
@[simp] theorem decidedByX86_times (i : Instr) (s : State) : (decidedByX86 i s).times = s.times := rfl
@[simp] theorem decidedByX86_inputs (i : Instr) (s : State) : (decidedByX86 i s).inputs = s.inputs := rfl
@[simp] theorem decidedByX86_free (i : Instr) (s : State) : (decidedByX86 i s).free = s.free + 1 := rfl

/-! ### `deliverX86` -/

@[simp] theorem deliverX86_part (d : Delivery) (s : State) : (deliverX86 d s).part = s.part := rfl
@[simp] theorem deliverX86_supply (d : Delivery) (s : State) : (deliverX86 d s).supply = s.supply := rfl
@[simp] theorem deliverX86_rst (d : Delivery) (s : State) : (deliverX86 d s).rst = s.rst := rfl
@[simp] theorem deliverX86_pm (d : Delivery) (s : State) : (deliverX86 d s).pm = s.pm := rfl
@[simp] theorem deliverX86_probeRet (d : Delivery) (s : State) : (deliverX86 d s).probeRet = s.probeRet := rfl
@[simp] theorem deliverX86_sgFromHalt (d : Delivery) (s : State) : (deliverX86 d s).sgFromHalt = s.sgFromHalt := rfl
@[simp] theorem deliverX86_conn (d : Delivery) (s : State) : (deliverX86 d s).conn = s.conn := rfl
@[simp] theorem deliverX86_discReq (d : Delivery) (s : State) : (deliverX86 d s).discReq = s.discReq := rfl
@[simp] theorem deliverX86_oweSg (d : Delivery) (s : State) : (deliverX86 d s).oweSg = s.oweSg := rfl
@[simp] theorem deliverX86_wake (d : Delivery) (s : State) : (deliverX86 d s).wake = s.wake := rfl
@[simp] theorem deliverX86_latched (d : Delivery) (s : State) : (deliverX86 d s).latched = s.latched := rfl
@[simp] theorem deliverX86_intrPending (d : Delivery) (s : State) : (deliverX86 d s).intrPending = s.intrPending := rfl
@[simp] theorem deliverX86_deferred (d : Delivery) (s : State) : (deliverX86 d s).deferred = s.deferred := rfl
@[simp] theorem deliverX86_clkCtl (d : Delivery) (s : State) : (deliverX86 d s).clkCtl = s.clkCtl := rfl
@[simp] theorem deliverX86_clockDiv (d : Delivery) (s : State) : (deliverX86 d s).clockDiv = s.clockDiv := rfl
@[simp] theorem deliverX86_sip (d : Delivery) (s : State) : (deliverX86 d s).sip = s.sip := rfl
@[simp] theorem deliverX86_x86 (d : Delivery) (s : State) : (deliverX86 d s).x86 = (Config.x86Deliver s.x86 (busView s) d).x86 := rfl
@[simp] theorem deliverX86_cache (d : Delivery) (s : State) : (deliverX86 d s).cache = (Config.x86Deliver s.x86 (busView s) d).caches.fit.under s.pins.a20m s.cache := rfl
@[simp] theorem deliverX86_out (d : Delivery) (s : State) : (deliverX86 d s).out = s.out := rfl
@[simp] theorem deliverX86_mem (d : Delivery) (s : State) : (deliverX86 d s).mem = storeAll s.pins.a20m (Config.x86Deliver s.x86 (busView s) d).stores s.mem := rfl
@[simp] theorem deliverX86_pins (d : Delivery) (s : State) : (deliverX86 d s).pins = s.pins := rfl
@[simp] theorem deliverX86_env (d : Delivery) (s : State) : (deliverX86 d s).env = s.env := rfl
@[simp] theorem deliverX86_times (d : Delivery) (s : State) : (deliverX86 d s).times = s.times := rfl
@[simp] theorem deliverX86_inputs (d : Delivery) (s : State) : (deliverX86 d s).inputs = s.inputs := rfl
@[simp] theorem deliverX86_free (d : Delivery) (s : State) : (deliverX86 d s).free = s.free + 1 := rfl

/-! ### `deliverInit` -/

@[simp] theorem deliverInit_part (s : State) : (deliverInit s).part = s.part := rfl
@[simp] theorem deliverInit_supply (s : State) : (deliverInit s).supply = s.supply := rfl
@[simp] theorem deliverInit_rst (s : State) : (deliverInit s).rst = s.rst := rfl
@[simp] theorem deliverInit_pm (s : State) : (deliverInit s).pm = s.pm := rfl
@[simp] theorem deliverInit_probeRet (s : State) : (deliverInit s).probeRet = s.probeRet := rfl
@[simp] theorem deliverInit_sgFromHalt (s : State) : (deliverInit s).sgFromHalt = s.sgFromHalt := rfl
@[simp] theorem deliverInit_conn (s : State) : (deliverInit s).conn = s.conn := rfl
@[simp] theorem deliverInit_discReq (s : State) : (deliverInit s).discReq = s.discReq := rfl
@[simp] theorem deliverInit_oweSg (s : State) : (deliverInit s).oweSg = s.oweSg := rfl
@[simp] theorem deliverInit_wake (s : State) : (deliverInit s).wake = s.wake := rfl
@[simp] theorem deliverInit_latched (s : State) : (deliverInit s).latched = s.latched := rfl
@[simp] theorem deliverInit_intrPending (s : State) : (deliverInit s).intrPending = s.intrPending := rfl
@[simp] theorem deliverInit_deferred (s : State) : (deliverInit s).deferred = s.deferred := rfl
@[simp] theorem deliverInit_clkCtl (s : State) : (deliverInit s).clkCtl = s.clkCtl := rfl
@[simp] theorem deliverInit_clockDiv (s : State) : (deliverInit s).clockDiv = s.clockDiv := rfl
@[simp] theorem deliverInit_sip (s : State) : (deliverInit s).sip = s.sip := rfl
@[simp] theorem deliverInit_x86 (s : State) : (deliverInit s).x86 = initX86 s.x86 := rfl
@[simp] theorem deliverInit_cache (s : State) : (deliverInit s).cache = s.cache := rfl
@[simp] theorem deliverInit_out (s : State) : (deliverInit s).out = s.out := rfl
@[simp] theorem deliverInit_mem (s : State) : (deliverInit s).mem = s.mem := rfl
@[simp] theorem deliverInit_pins (s : State) : (deliverInit s).pins = s.pins := rfl
@[simp] theorem deliverInit_env (s : State) : (deliverInit s).env = s.env := rfl
@[simp] theorem deliverInit_times (s : State) : (deliverInit s).times = s.times := rfl
@[simp] theorem deliverInit_inputs (s : State) : (deliverInit s).inputs = s.inputs := rfl
@[simp] theorem deliverInit_free (s : State) : (deliverInit s).free = s.free := rfl

/-! ### `advance` -/

@[simp] theorem advance_part (i : Instr) (s : State) : (advance i s).part = s.part := rfl
@[simp] theorem advance_supply (i : Instr) (s : State) : (advance i s).supply = s.supply := rfl
@[simp] theorem advance_rst (i : Instr) (s : State) : (advance i s).rst = s.rst := rfl
@[simp] theorem advance_pm (i : Instr) (s : State) : (advance i s).pm = s.pm := rfl
@[simp] theorem advance_probeRet (i : Instr) (s : State) : (advance i s).probeRet = s.probeRet := rfl
@[simp] theorem advance_sgFromHalt (i : Instr) (s : State) : (advance i s).sgFromHalt = s.sgFromHalt := rfl
@[simp] theorem advance_conn (i : Instr) (s : State) : (advance i s).conn = s.conn := rfl
@[simp] theorem advance_discReq (i : Instr) (s : State) : (advance i s).discReq = s.discReq := rfl
@[simp] theorem advance_oweSg (i : Instr) (s : State) : (advance i s).oweSg = s.oweSg := rfl
@[simp] theorem advance_wake (i : Instr) (s : State) : (advance i s).wake = s.wake := rfl
@[simp] theorem advance_latched (i : Instr) (s : State) : (advance i s).latched = s.latched := rfl
@[simp] theorem advance_intrPending (i : Instr) (s : State) : (advance i s).intrPending = s.intrPending := rfl
@[simp] theorem advance_deferred (i : Instr) (s : State) : (advance i s).deferred = s.deferred := rfl
@[simp] theorem advance_clkCtl (i : Instr) (s : State) : (advance i s).clkCtl = s.clkCtl := rfl
@[simp] theorem advance_clockDiv (i : Instr) (s : State) : (advance i s).clockDiv = s.clockDiv := rfl
@[simp] theorem advance_sip (i : Instr) (s : State) : (advance i s).sip = s.sip := rfl
@[simp] theorem advance_x86 (i : Instr) (s : State) : (advance i s).x86 = { s.x86 with fetch := s.x86.fetch + BitVec.ofNat 64 i.length } := rfl
@[simp] theorem advance_cache (i : Instr) (s : State) : (advance i s).cache = s.cache := rfl
@[simp] theorem advance_out (i : Instr) (s : State) : (advance i s).out = s.out := rfl
@[simp] theorem advance_mem (i : Instr) (s : State) : (advance i s).mem = s.mem := rfl
@[simp] theorem advance_pins (i : Instr) (s : State) : (advance i s).pins = s.pins := rfl
@[simp] theorem advance_env (i : Instr) (s : State) : (advance i s).env = s.env := rfl
@[simp] theorem advance_times (i : Instr) (s : State) : (advance i s).times = s.times := rfl
@[simp] theorem advance_inputs (i : Instr) (s : State) : (advance i s).inputs = s.inputs := rfl
@[simp] theorem advance_free (i : Instr) (s : State) : (advance i s).free = s.free := rfl

/-! ### `enterSmm` -/

@[simp] theorem enterSmm_part (s : State) : (enterSmm s).part = s.part := rfl
@[simp] theorem enterSmm_supply (s : State) : (enterSmm s).supply = s.supply := rfl
@[simp] theorem enterSmm_rst (s : State) : (enterSmm s).rst = s.rst := rfl
@[simp] theorem enterSmm_pm (s : State) : (enterSmm s).pm = s.pm := rfl
@[simp] theorem enterSmm_probeRet (s : State) : (enterSmm s).probeRet = s.probeRet := rfl
@[simp] theorem enterSmm_sgFromHalt (s : State) : (enterSmm s).sgFromHalt = s.sgFromHalt := rfl
@[simp] theorem enterSmm_conn (s : State) : (enterSmm s).conn = s.conn := rfl
@[simp] theorem enterSmm_discReq (s : State) : (enterSmm s).discReq = s.discReq := rfl
@[simp] theorem enterSmm_oweSg (s : State) : (enterSmm s).oweSg = s.oweSg := rfl
@[simp] theorem enterSmm_wake (s : State) : (enterSmm s).wake = s.wake := rfl
@[simp] theorem enterSmm_latched (s : State) : (enterSmm s).latched = s.latched := rfl
@[simp] theorem enterSmm_intrPending (s : State) : (enterSmm s).intrPending = s.intrPending := rfl
@[simp] theorem enterSmm_deferred (s : State) : (enterSmm s).deferred = s.deferred := rfl
@[simp] theorem enterSmm_clkCtl (s : State) : (enterSmm s).clkCtl = s.clkCtl := rfl
@[simp] theorem enterSmm_clockDiv (s : State) : (enterSmm s).clockDiv = s.clockDiv := rfl
@[simp] theorem enterSmm_sip (s : State) : (enterSmm s).sip = s.sip := rfl
@[simp] theorem enterSmm_x86 (s : State) : (enterSmm s).x86 = { s.x86 with mode := .systemManagement } := rfl
@[simp] theorem enterSmm_cache (s : State) : (enterSmm s).cache = s.cache := rfl
@[simp] theorem enterSmm_out (s : State) : (enterSmm s).out = s.out := rfl
@[simp] theorem enterSmm_mem (s : State) : (enterSmm s).mem = s.mem := rfl
@[simp] theorem enterSmm_pins (s : State) : (enterSmm s).pins = s.pins := rfl
@[simp] theorem enterSmm_env (s : State) : (enterSmm s).env = s.env := rfl
@[simp] theorem enterSmm_times (s : State) : (enterSmm s).times = s.times := rfl
@[simp] theorem enterSmm_inputs (s : State) : (enterSmm s).inputs = s.inputs := rfl
@[simp] theorem enterSmm_free (s : State) : (enterSmm s).free = s.free := rfl

/-! ### `latch` -/

@[simp] theorem latch_part (k : Kind) (m : Opaque) (s : State) : (latch k m s).part = s.part := rfl
@[simp] theorem latch_supply (k : Kind) (m : Opaque) (s : State) : (latch k m s).supply = s.supply := rfl
@[simp] theorem latch_rst (k : Kind) (m : Opaque) (s : State) : (latch k m s).rst = s.rst := rfl
@[simp] theorem latch_pm (k : Kind) (m : Opaque) (s : State) : (latch k m s).pm = s.pm := rfl
@[simp] theorem latch_probeRet (k : Kind) (m : Opaque) (s : State) : (latch k m s).probeRet = s.probeRet := rfl
@[simp] theorem latch_sgFromHalt (k : Kind) (m : Opaque) (s : State) : (latch k m s).sgFromHalt = s.sgFromHalt := rfl
@[simp] theorem latch_conn (k : Kind) (m : Opaque) (s : State) : (latch k m s).conn = s.conn := rfl
@[simp] theorem latch_discReq (k : Kind) (m : Opaque) (s : State) : (latch k m s).discReq = s.discReq := rfl
@[simp] theorem latch_oweSg (k : Kind) (m : Opaque) (s : State) : (latch k m s).oweSg = s.oweSg := rfl
@[simp] theorem latch_wake (k : Kind) (m : Opaque) (s : State) : (latch k m s).wake = s.wake := rfl
@[simp] theorem latch_latched (k : Kind) (m : Opaque) (s : State) : (latch k m s).latched = s.latched.add k m := rfl
@[simp] theorem latch_intrPending (k : Kind) (m : Opaque) (s : State) : (latch k m s).intrPending = s.intrPending := rfl
@[simp] theorem latch_deferred (k : Kind) (m : Opaque) (s : State) : (latch k m s).deferred = s.deferred := rfl
@[simp] theorem latch_clkCtl (k : Kind) (m : Opaque) (s : State) : (latch k m s).clkCtl = s.clkCtl := rfl
@[simp] theorem latch_clockDiv (k : Kind) (m : Opaque) (s : State) : (latch k m s).clockDiv = s.clockDiv := rfl
@[simp] theorem latch_sip (k : Kind) (m : Opaque) (s : State) : (latch k m s).sip = s.sip := rfl
@[simp] theorem latch_x86 (k : Kind) (m : Opaque) (s : State) : (latch k m s).x86 = s.x86 := rfl
@[simp] theorem latch_cache (k : Kind) (m : Opaque) (s : State) : (latch k m s).cache = s.cache := rfl
@[simp] theorem latch_out (k : Kind) (m : Opaque) (s : State) : (latch k m s).out = s.out := rfl
@[simp] theorem latch_mem (k : Kind) (m : Opaque) (s : State) : (latch k m s).mem = s.mem := rfl
@[simp] theorem latch_pins (k : Kind) (m : Opaque) (s : State) : (latch k m s).pins = s.pins := rfl
@[simp] theorem latch_env (k : Kind) (m : Opaque) (s : State) : (latch k m s).env = s.env := rfl
@[simp] theorem latch_times (k : Kind) (m : Opaque) (s : State) : (latch k m s).times = s.times := rfl
@[simp] theorem latch_inputs (k : Kind) (m : Opaque) (s : State) : (latch k m s).inputs = s.inputs := rfl
@[simp] theorem latch_free (k : Kind) (m : Opaque) (s : State) : (latch k m s).free = s.free := rfl

/-! ### `oweConnect` -/

@[simp] theorem oweConnect_part (s : State) : (oweConnect s).part = s.part := rfl
@[simp] theorem oweConnect_supply (s : State) : (oweConnect s).supply = s.supply := rfl
@[simp] theorem oweConnect_rst (s : State) : (oweConnect s).rst = s.rst := rfl
@[simp] theorem oweConnect_pm (s : State) : (oweConnect s).pm = s.pm := rfl
@[simp] theorem oweConnect_probeRet (s : State) : (oweConnect s).probeRet = s.probeRet := rfl
@[simp] theorem oweConnect_sgFromHalt (s : State) : (oweConnect s).sgFromHalt = s.sgFromHalt := rfl
@[simp] theorem oweConnect_conn (s : State) : (oweConnect s).conn = s.conn := rfl
@[simp] theorem oweConnect_discReq (s : State) : (oweConnect s).discReq = false := rfl
@[simp] theorem oweConnect_oweSg (s : State) : (oweConnect s).oweSg = s.oweSg := rfl
@[simp] theorem oweConnect_wake (s : State) : (oweConnect s).wake = true := rfl
@[simp] theorem oweConnect_latched (s : State) : (oweConnect s).latched = s.latched := rfl
@[simp] theorem oweConnect_intrPending (s : State) : (oweConnect s).intrPending = s.intrPending := rfl
@[simp] theorem oweConnect_deferred (s : State) : (oweConnect s).deferred = s.deferred := rfl
@[simp] theorem oweConnect_clkCtl (s : State) : (oweConnect s).clkCtl = s.clkCtl := rfl
@[simp] theorem oweConnect_clockDiv (s : State) : (oweConnect s).clockDiv = s.clockDiv := rfl
@[simp] theorem oweConnect_sip (s : State) : (oweConnect s).sip = s.sip := rfl
@[simp] theorem oweConnect_x86 (s : State) : (oweConnect s).x86 = s.x86 := rfl
@[simp] theorem oweConnect_cache (s : State) : (oweConnect s).cache = s.cache := rfl
@[simp] theorem oweConnect_out (s : State) : (oweConnect s).out = s.out := rfl
@[simp] theorem oweConnect_mem (s : State) : (oweConnect s).mem = s.mem := rfl
@[simp] theorem oweConnect_pins (s : State) : (oweConnect s).pins = s.pins := rfl
@[simp] theorem oweConnect_env (s : State) : (oweConnect s).env = s.env := rfl
@[simp] theorem oweConnect_times (s : State) : (oweConnect s).times = s.times := rfl
@[simp] theorem oweConnect_inputs (s : State) : (oweConnect s).inputs = s.inputs := rfl
@[simp] theorem oweConnect_free (s : State) : (oweConnect s).free = s.free := rfl

/-! ### `enterHalt` -/

@[simp] theorem enterHalt_part (s : State) : (enterHalt s).part = s.part := rfl
@[simp] theorem enterHalt_supply (s : State) : (enterHalt s).supply = s.supply := rfl
@[simp] theorem enterHalt_rst (s : State) : (enterHalt s).rst = s.rst := rfl
@[simp] theorem enterHalt_pm (s : State) : (enterHalt s).pm = .halt := rfl
@[simp] theorem enterHalt_probeRet (s : State) : (enterHalt s).probeRet = s.probeRet := rfl
@[simp] theorem enterHalt_sgFromHalt (s : State) : (enterHalt s).sgFromHalt = s.sgFromHalt := rfl
@[simp] theorem enterHalt_conn (s : State) : (enterHalt s).conn = s.conn := rfl
@[simp] theorem enterHalt_discReq (s : State) : (enterHalt s).discReq = true := rfl
@[simp] theorem enterHalt_oweSg (s : State) : (enterHalt s).oweSg = s.oweSg := rfl
@[simp] theorem enterHalt_wake (s : State) : (enterHalt s).wake = s.wake := rfl
@[simp] theorem enterHalt_latched (s : State) : (enterHalt s).latched = s.latched := rfl
@[simp] theorem enterHalt_intrPending (s : State) : (enterHalt s).intrPending = s.intrPending := rfl
@[simp] theorem enterHalt_deferred (s : State) : (enterHalt s).deferred = s.deferred := rfl
@[simp] theorem enterHalt_clkCtl (s : State) : (enterHalt s).clkCtl = s.clkCtl := rfl
@[simp] theorem enterHalt_clockDiv (s : State) : (enterHalt s).clockDiv = s.clockDiv := rfl
@[simp] theorem enterHalt_sip (s : State) : (enterHalt s).sip = s.sip := rfl
@[simp] theorem enterHalt_x86 (s : State) : (enterHalt s).x86 = s.x86 := rfl
@[simp] theorem enterHalt_cache (s : State) : (enterHalt s).cache = s.cache := rfl
@[simp] theorem enterHalt_out (s : State) : (enterHalt s).out = s.out ++ [.cycle .halt] := rfl
@[simp] theorem enterHalt_mem (s : State) : (enterHalt s).mem = s.mem := rfl
@[simp] theorem enterHalt_pins (s : State) : (enterHalt s).pins = s.pins := rfl
@[simp] theorem enterHalt_env (s : State) : (enterHalt s).env = s.env := rfl
@[simp] theorem enterHalt_times (s : State) : (enterHalt s).times = s.times := rfl
@[simp] theorem enterHalt_inputs (s : State) : (enterHalt s).inputs = s.inputs := rfl
@[simp] theorem enterHalt_free (s : State) : (enterHalt s).free = s.free := rfl

/-! ### `enterStopGrant` -/

@[simp] theorem enterStopGrant_part (s : State) : (enterStopGrant s).part = s.part := rfl
@[simp] theorem enterStopGrant_supply (s : State) : (enterStopGrant s).supply = s.supply := rfl
@[simp] theorem enterStopGrant_rst (s : State) : (enterStopGrant s).rst = s.rst := rfl
@[simp] theorem enterStopGrant_pm (s : State) : (enterStopGrant s).pm = .stopGrant := rfl
@[simp] theorem enterStopGrant_probeRet (s : State) : (enterStopGrant s).probeRet = s.probeRet := rfl
@[simp] theorem enterStopGrant_sgFromHalt (s : State) : (enterStopGrant s).sgFromHalt = false := rfl
@[simp] theorem enterStopGrant_conn (s : State) : (enterStopGrant s).conn = s.conn := rfl
@[simp] theorem enterStopGrant_discReq (s : State) : (enterStopGrant s).discReq = true := rfl
@[simp] theorem enterStopGrant_oweSg (s : State) : (enterStopGrant s).oweSg = s.oweSg := rfl
@[simp] theorem enterStopGrant_wake (s : State) : (enterStopGrant s).wake = s.wake := rfl
@[simp] theorem enterStopGrant_latched (s : State) : (enterStopGrant s).latched = s.latched := rfl
@[simp] theorem enterStopGrant_intrPending (s : State) : (enterStopGrant s).intrPending = s.intrPending := rfl
@[simp] theorem enterStopGrant_deferred (s : State) : (enterStopGrant s).deferred = s.deferred := rfl
@[simp] theorem enterStopGrant_clkCtl (s : State) : (enterStopGrant s).clkCtl = s.clkCtl := rfl
@[simp] theorem enterStopGrant_clockDiv (s : State) : (enterStopGrant s).clockDiv = s.clockDiv := rfl
@[simp] theorem enterStopGrant_sip (s : State) : (enterStopGrant s).sip = s.sip := rfl
@[simp] theorem enterStopGrant_x86 (s : State) : (enterStopGrant s).x86 = s.x86 := rfl
@[simp] theorem enterStopGrant_cache (s : State) : (enterStopGrant s).cache = s.cache := rfl
@[simp] theorem enterStopGrant_out (s : State) : (enterStopGrant s).out = s.out ++ [.cycle .stopGrant] := rfl
@[simp] theorem enterStopGrant_mem (s : State) : (enterStopGrant s).mem = s.mem := rfl
@[simp] theorem enterStopGrant_pins (s : State) : (enterStopGrant s).pins = s.pins := rfl
@[simp] theorem enterStopGrant_env (s : State) : (enterStopGrant s).env = s.env := rfl
@[simp] theorem enterStopGrant_times (s : State) : (enterStopGrant s).times = s.times := rfl
@[simp] theorem enterStopGrant_inputs (s : State) : (enterStopGrant s).inputs = s.inputs := rfl
@[simp] theorem enterStopGrant_free (s : State) : (enterStopGrant s).free = s.free := rfl

/-! ### `finishOwedStopGrant` -/

@[simp] theorem finishOwedStopGrant_part (s : State) : (finishOwedStopGrant s).part = s.part := rfl
@[simp] theorem finishOwedStopGrant_supply (s : State) : (finishOwedStopGrant s).supply = s.supply := rfl
@[simp] theorem finishOwedStopGrant_rst (s : State) : (finishOwedStopGrant s).rst = s.rst := rfl
@[simp] theorem finishOwedStopGrant_pm (s : State) : (finishOwedStopGrant s).pm = s.pm := rfl
@[simp] theorem finishOwedStopGrant_probeRet (s : State) : (finishOwedStopGrant s).probeRet = s.probeRet := rfl
@[simp] theorem finishOwedStopGrant_sgFromHalt (s : State) : (finishOwedStopGrant s).sgFromHalt = s.sgFromHalt := rfl
@[simp] theorem finishOwedStopGrant_conn (s : State) : (finishOwedStopGrant s).conn = s.conn := rfl
@[simp] theorem finishOwedStopGrant_discReq (s : State) : (finishOwedStopGrant s).discReq = true := rfl
@[simp] theorem finishOwedStopGrant_oweSg (s : State) : (finishOwedStopGrant s).oweSg = false := rfl
@[simp] theorem finishOwedStopGrant_wake (s : State) : (finishOwedStopGrant s).wake = s.wake := rfl
@[simp] theorem finishOwedStopGrant_latched (s : State) : (finishOwedStopGrant s).latched = s.latched := rfl
@[simp] theorem finishOwedStopGrant_intrPending (s : State) : (finishOwedStopGrant s).intrPending = s.intrPending := rfl
@[simp] theorem finishOwedStopGrant_deferred (s : State) : (finishOwedStopGrant s).deferred = s.deferred := rfl
@[simp] theorem finishOwedStopGrant_clkCtl (s : State) : (finishOwedStopGrant s).clkCtl = s.clkCtl := rfl
@[simp] theorem finishOwedStopGrant_clockDiv (s : State) : (finishOwedStopGrant s).clockDiv = s.clockDiv := rfl
@[simp] theorem finishOwedStopGrant_sip (s : State) : (finishOwedStopGrant s).sip = s.sip := rfl
@[simp] theorem finishOwedStopGrant_x86 (s : State) : (finishOwedStopGrant s).x86 = s.x86 := rfl
@[simp] theorem finishOwedStopGrant_cache (s : State) : (finishOwedStopGrant s).cache = s.cache := rfl
@[simp] theorem finishOwedStopGrant_out (s : State) : (finishOwedStopGrant s).out = s.out ++ [.cycle .stopGrant] := rfl
@[simp] theorem finishOwedStopGrant_mem (s : State) : (finishOwedStopGrant s).mem = s.mem := rfl
@[simp] theorem finishOwedStopGrant_pins (s : State) : (finishOwedStopGrant s).pins = s.pins := rfl
@[simp] theorem finishOwedStopGrant_env (s : State) : (finishOwedStopGrant s).env = s.env := rfl
@[simp] theorem finishOwedStopGrant_times (s : State) : (finishOwedStopGrant s).times = s.times := rfl
@[simp] theorem finishOwedStopGrant_inputs (s : State) : (finishOwedStopGrant s).inputs = s.inputs := rfl
@[simp] theorem finishOwedStopGrant_free (s : State) : (finishOwedStopGrant s).free = s.free := rfl

/-! ### `reenterHalt` -/

@[simp] theorem reenterHalt_part (s : State) : (reenterHalt s).part = s.part := rfl
@[simp] theorem reenterHalt_supply (s : State) : (reenterHalt s).supply = s.supply := rfl
@[simp] theorem reenterHalt_rst (s : State) : (reenterHalt s).rst = s.rst := rfl
@[simp] theorem reenterHalt_pm (s : State) : (reenterHalt s).pm = .halt := rfl
@[simp] theorem reenterHalt_probeRet (s : State) : (reenterHalt s).probeRet = s.probeRet := rfl
@[simp] theorem reenterHalt_sgFromHalt (s : State) : (reenterHalt s).sgFromHalt = false := rfl
@[simp] theorem reenterHalt_conn (s : State) : (reenterHalt s).conn = s.conn := rfl
@[simp] theorem reenterHalt_discReq (s : State) : (reenterHalt s).discReq = true := rfl
@[simp] theorem reenterHalt_oweSg (s : State) : (reenterHalt s).oweSg = s.oweSg := rfl
@[simp] theorem reenterHalt_wake (s : State) : (reenterHalt s).wake = s.wake := rfl
@[simp] theorem reenterHalt_latched (s : State) : (reenterHalt s).latched = s.latched := rfl
@[simp] theorem reenterHalt_intrPending (s : State) : (reenterHalt s).intrPending = s.intrPending := rfl
@[simp] theorem reenterHalt_deferred (s : State) : (reenterHalt s).deferred = s.deferred := rfl
@[simp] theorem reenterHalt_clkCtl (s : State) : (reenterHalt s).clkCtl = s.clkCtl := rfl
@[simp] theorem reenterHalt_clockDiv (s : State) : (reenterHalt s).clockDiv = s.clockDiv := rfl
@[simp] theorem reenterHalt_sip (s : State) : (reenterHalt s).sip = s.sip := rfl
@[simp] theorem reenterHalt_x86 (s : State) : (reenterHalt s).x86 = s.x86 := rfl
@[simp] theorem reenterHalt_cache (s : State) : (reenterHalt s).cache = s.cache := rfl
@[simp] theorem reenterHalt_out (s : State) : (reenterHalt s).out = s.out ++ [.cycle .halt] := rfl
@[simp] theorem reenterHalt_mem (s : State) : (reenterHalt s).mem = s.mem := rfl
@[simp] theorem reenterHalt_pins (s : State) : (reenterHalt s).pins = s.pins := rfl
@[simp] theorem reenterHalt_env (s : State) : (reenterHalt s).env = s.env := rfl
@[simp] theorem reenterHalt_times (s : State) : (reenterHalt s).times = s.times := rfl
@[simp] theorem reenterHalt_inputs (s : State) : (reenterHalt s).inputs = s.inputs := rfl
@[simp] theorem reenterHalt_free (s : State) : (reenterHalt s).free = s.free := rfl

/-! ### `dropProcrdy` -/

@[simp] theorem dropProcrdy_part (s : State) : (dropProcrdy s).part = s.part := rfl
@[simp] theorem dropProcrdy_supply (s : State) : (dropProcrdy s).supply = s.supply := rfl
@[simp] theorem dropProcrdy_rst (s : State) : (dropProcrdy s).rst = s.rst := rfl
@[simp] theorem dropProcrdy_pm (s : State) : (dropProcrdy s).pm = s.pm := rfl
@[simp] theorem dropProcrdy_probeRet (s : State) : (dropProcrdy s).probeRet = s.probeRet := rfl
@[simp] theorem dropProcrdy_sgFromHalt (s : State) : (dropProcrdy s).sgFromHalt = s.sgFromHalt := rfl
@[simp] theorem dropProcrdy_conn (s : State) : (dropProcrdy s).conn = .disconnected := rfl
@[simp] theorem dropProcrdy_discReq (s : State) : (dropProcrdy s).discReq = s.discReq := rfl
@[simp] theorem dropProcrdy_oweSg (s : State) : (dropProcrdy s).oweSg = s.oweSg := rfl
@[simp] theorem dropProcrdy_wake (s : State) : (dropProcrdy s).wake = s.wake := rfl
@[simp] theorem dropProcrdy_latched (s : State) : (dropProcrdy s).latched = s.latched := rfl
@[simp] theorem dropProcrdy_intrPending (s : State) : (dropProcrdy s).intrPending = s.intrPending := rfl
@[simp] theorem dropProcrdy_deferred (s : State) : (dropProcrdy s).deferred = s.deferred := rfl
@[simp] theorem dropProcrdy_clkCtl (s : State) : (dropProcrdy s).clkCtl = s.clkCtl := rfl
@[simp] theorem dropProcrdy_clockDiv (s : State) : (dropProcrdy s).clockDiv = s.disconnectDiv := rfl
@[simp] theorem dropProcrdy_sip (s : State) : (dropProcrdy s).sip = s.sip := rfl
@[simp] theorem dropProcrdy_x86 (s : State) : (dropProcrdy s).x86 = s.x86 := rfl
@[simp] theorem dropProcrdy_cache (s : State) : (dropProcrdy s).cache = s.cache := rfl
@[simp] theorem dropProcrdy_out (s : State) : (dropProcrdy s).out = s.out ++ [.procrdy false] := rfl
@[simp] theorem dropProcrdy_mem (s : State) : (dropProcrdy s).mem = s.mem := rfl
@[simp] theorem dropProcrdy_pins (s : State) : (dropProcrdy s).pins = { s.pins with procrdy := false } := rfl
@[simp] theorem dropProcrdy_env (s : State) : (dropProcrdy s).env = { s.env with probeDue := true } := rfl
@[simp] theorem dropProcrdy_times (s : State) : (dropProcrdy s).times = s.times := rfl
@[simp] theorem dropProcrdy_inputs (s : State) : (dropProcrdy s).inputs = s.inputs := rfl
@[simp] theorem dropProcrdy_free (s : State) : (dropProcrdy s).free = s.free := rfl

/-! ### `raiseProcrdy` -/

@[simp] theorem raiseProcrdy_part (s : State) : (raiseProcrdy s).part = s.part := rfl
@[simp] theorem raiseProcrdy_supply (s : State) : (raiseProcrdy s).supply = s.supply := rfl
@[simp] theorem raiseProcrdy_rst (s : State) : (raiseProcrdy s).rst = s.rst := rfl
@[simp] theorem raiseProcrdy_pm (s : State) : (raiseProcrdy s).pm = s.pm := rfl
@[simp] theorem raiseProcrdy_probeRet (s : State) : (raiseProcrdy s).probeRet = s.probeRet := rfl
@[simp] theorem raiseProcrdy_sgFromHalt (s : State) : (raiseProcrdy s).sgFromHalt = s.sgFromHalt := rfl
@[simp] theorem raiseProcrdy_conn (s : State) : (raiseProcrdy s).conn = .connectPending1 := rfl
@[simp] theorem raiseProcrdy_discReq (s : State) : (raiseProcrdy s).discReq = s.discReq := rfl
@[simp] theorem raiseProcrdy_oweSg (s : State) : (raiseProcrdy s).oweSg = s.oweSg := rfl
@[simp] theorem raiseProcrdy_wake (s : State) : (raiseProcrdy s).wake = s.wake := rfl
@[simp] theorem raiseProcrdy_latched (s : State) : (raiseProcrdy s).latched = s.latched := rfl
@[simp] theorem raiseProcrdy_intrPending (s : State) : (raiseProcrdy s).intrPending = s.intrPending := rfl
@[simp] theorem raiseProcrdy_deferred (s : State) : (raiseProcrdy s).deferred = s.deferred := rfl
@[simp] theorem raiseProcrdy_clkCtl (s : State) : (raiseProcrdy s).clkCtl = s.clkCtl := rfl
@[simp] theorem raiseProcrdy_clockDiv (s : State) : (raiseProcrdy s).clockDiv = 1 := rfl
@[simp] theorem raiseProcrdy_sip (s : State) : (raiseProcrdy s).sip = s.sip := rfl
@[simp] theorem raiseProcrdy_x86 (s : State) : (raiseProcrdy s).x86 = s.x86 := rfl
@[simp] theorem raiseProcrdy_cache (s : State) : (raiseProcrdy s).cache = s.cache := rfl
@[simp] theorem raiseProcrdy_out (s : State) : (raiseProcrdy s).out = s.out ++ [.procrdy true] := rfl
@[simp] theorem raiseProcrdy_mem (s : State) : (raiseProcrdy s).mem = s.mem := rfl
@[simp] theorem raiseProcrdy_pins (s : State) : (raiseProcrdy s).pins = { s.pins with procrdy := true } := rfl
@[simp] theorem raiseProcrdy_env (s : State) : (raiseProcrdy s).env = s.env := rfl
@[simp] theorem raiseProcrdy_times (s : State) : (raiseProcrdy s).times = s.times := rfl
@[simp] theorem raiseProcrdy_inputs (s : State) : (raiseProcrdy s).inputs = s.inputs := rfl
@[simp] theorem raiseProcrdy_free (s : State) : (raiseProcrdy s).free = s.free := rfl

/-! ### `passTime` -/

@[simp] theorem passTime_part (ps : Nat) (s : State) : (passTime ps s).part = s.part := rfl
@[simp] theorem passTime_supply (ps : Nat) (s : State) : (passTime ps s).supply = s.supply := rfl
@[simp] theorem passTime_rst (ps : Nat) (s : State) : (passTime ps s).rst = s.rst := rfl
@[simp] theorem passTime_pm (ps : Nat) (s : State) : (passTime ps s).pm = s.pm := rfl
@[simp] theorem passTime_probeRet (ps : Nat) (s : State) : (passTime ps s).probeRet = s.probeRet := rfl
@[simp] theorem passTime_sgFromHalt (ps : Nat) (s : State) : (passTime ps s).sgFromHalt = s.sgFromHalt := rfl
@[simp] theorem passTime_conn (ps : Nat) (s : State) : (passTime ps s).conn = s.conn := rfl
@[simp] theorem passTime_discReq (ps : Nat) (s : State) : (passTime ps s).discReq = s.discReq := rfl
@[simp] theorem passTime_oweSg (ps : Nat) (s : State) : (passTime ps s).oweSg = s.oweSg := rfl
@[simp] theorem passTime_wake (ps : Nat) (s : State) : (passTime ps s).wake = s.wake := rfl
@[simp] theorem passTime_latched (ps : Nat) (s : State) : (passTime ps s).latched = s.latched := rfl
@[simp] theorem passTime_intrPending (ps : Nat) (s : State) : (passTime ps s).intrPending = s.intrPending := rfl
@[simp] theorem passTime_deferred (ps : Nat) (s : State) : (passTime ps s).deferred = s.deferred := rfl
@[simp] theorem passTime_clkCtl (ps : Nat) (s : State) : (passTime ps s).clkCtl = s.clkCtl := rfl
@[simp] theorem passTime_clockDiv (ps : Nat) (s : State) : (passTime ps s).clockDiv = s.clockDiv := rfl
@[simp] theorem passTime_sip (ps : Nat) (s : State) : (passTime ps s).sip = s.sip := rfl
@[simp] theorem passTime_x86 (ps : Nat) (s : State) : (passTime ps s).x86 = s.x86 := rfl
@[simp] theorem passTime_cache (ps : Nat) (s : State) : (passTime ps s).cache = s.cache := rfl
@[simp] theorem passTime_out (ps : Nat) (s : State) : (passTime ps s).out = s.out := rfl
@[simp] theorem passTime_mem (ps : Nat) (s : State) : (passTime ps s).mem = s.mem := rfl
@[simp] theorem passTime_pins (ps : Nat) (s : State) : (passTime ps s).pins = s.pins := rfl
@[simp] theorem passTime_env (ps : Nat) (s : State) : (passTime ps s).env = s.env := rfl
@[simp] theorem passTime_times (ps : Nat) (s : State) : (passTime ps s).times = { s.times with
      now := s.times.now + ps
      vccAbove := if Electrical.aboveDc s.env.vccCoreMv then s.times.vccAbove + ps else 0
      vccBelow := if Electrical.belowDc s.env.vccCoreMv then s.times.vccBelow + ps else 0 } := rfl
@[simp] theorem passTime_inputs (ps : Nat) (s : State) : (passTime ps s).inputs = s.inputs := rfl
@[simp] theorem passTime_free (ps : Nat) (s : State) : (passTime ps s).free = s.free := rfl

/-! ### The two updates that depend on the state -/

@[simp] theorem leaveProbe_pm (s : State) : (leaveProbe s).pm = if s.pm = .probe then s.probeRet.toPower else s.pm := by
  cases h : s.pm <;> simp [leaveProbe, h]

/-- Leaving Probe changes the power state and nothing else. -/
theorem leaveProbe_eq (s : State) : leaveProbe s = { s with pm := (leaveProbe s).pm } := by
  unfold leaveProbe
  split <;> rfl

@[simp] theorem cancelDisconnect_out (s : State) :
    (cancelDisconnect s).out = if s.discReq then s.out ++ [.cycle .connect] else s.out := by
  unfold cancelDisconnect; split <;> rfl

/-- Cancelling a disconnect connects, withdraws the invitation, may emit the Connect special cycle, and leaves no probe due. -/
theorem cancelDisconnect_eq (s : State) :
    cancelDisconnect s = { s with
      conn := .connected, discReq := false, out := (cancelDisconnect s).out
      env := { s.env with probeDue := false } } := by
  unfold cancelDisconnect; split <;> rfl

@[simp] theorem leaveProbe_part (s : State) : (leaveProbe s).part = s.part := by rw [leaveProbe_eq]
@[simp] theorem leaveProbe_supply (s : State) : (leaveProbe s).supply = s.supply := by rw [leaveProbe_eq]
@[simp] theorem leaveProbe_rst (s : State) : (leaveProbe s).rst = s.rst := by rw [leaveProbe_eq]
@[simp] theorem leaveProbe_probeRet (s : State) : (leaveProbe s).probeRet = s.probeRet := by rw [leaveProbe_eq]
@[simp] theorem leaveProbe_sgFromHalt (s : State) : (leaveProbe s).sgFromHalt = s.sgFromHalt := by rw [leaveProbe_eq]
@[simp] theorem leaveProbe_conn (s : State) : (leaveProbe s).conn = s.conn := by rw [leaveProbe_eq]
@[simp] theorem leaveProbe_discReq (s : State) : (leaveProbe s).discReq = s.discReq := by rw [leaveProbe_eq]
@[simp] theorem leaveProbe_oweSg (s : State) : (leaveProbe s).oweSg = s.oweSg := by rw [leaveProbe_eq]
@[simp] theorem leaveProbe_wake (s : State) : (leaveProbe s).wake = s.wake := by rw [leaveProbe_eq]
@[simp] theorem leaveProbe_latched (s : State) : (leaveProbe s).latched = s.latched := by rw [leaveProbe_eq]
@[simp] theorem leaveProbe_intrPending (s : State) : (leaveProbe s).intrPending = s.intrPending := by rw [leaveProbe_eq]
@[simp] theorem leaveProbe_deferred (s : State) : (leaveProbe s).deferred = s.deferred := by rw [leaveProbe_eq]
@[simp] theorem leaveProbe_clkCtl (s : State) : (leaveProbe s).clkCtl = s.clkCtl := by rw [leaveProbe_eq]
@[simp] theorem leaveProbe_clockDiv (s : State) : (leaveProbe s).clockDiv = s.clockDiv := by rw [leaveProbe_eq]
@[simp] theorem leaveProbe_sip (s : State) : (leaveProbe s).sip = s.sip := by rw [leaveProbe_eq]
@[simp] theorem leaveProbe_x86 (s : State) : (leaveProbe s).x86 = s.x86 := by rw [leaveProbe_eq]
@[simp] theorem leaveProbe_cache (s : State) : (leaveProbe s).cache = s.cache := by rw [leaveProbe_eq]
@[simp] theorem leaveProbe_out (s : State) : (leaveProbe s).out = s.out := by rw [leaveProbe_eq]
@[simp] theorem leaveProbe_mem (s : State) : (leaveProbe s).mem = s.mem := by rw [leaveProbe_eq]
@[simp] theorem leaveProbe_pins (s : State) : (leaveProbe s).pins = s.pins := by rw [leaveProbe_eq]
@[simp] theorem leaveProbe_env (s : State) : (leaveProbe s).env = s.env := by rw [leaveProbe_eq]
@[simp] theorem leaveProbe_times (s : State) : (leaveProbe s).times = s.times := by rw [leaveProbe_eq]
@[simp] theorem leaveProbe_inputs (s : State) : (leaveProbe s).inputs = s.inputs := by rw [leaveProbe_eq]
@[simp] theorem leaveProbe_free (s : State) : (leaveProbe s).free = s.free := by rw [leaveProbe_eq]

@[simp] theorem cancelDisconnect_part (s : State) : (cancelDisconnect s).part = s.part := by rw [cancelDisconnect_eq]
@[simp] theorem cancelDisconnect_supply (s : State) : (cancelDisconnect s).supply = s.supply := by rw [cancelDisconnect_eq]
@[simp] theorem cancelDisconnect_rst (s : State) : (cancelDisconnect s).rst = s.rst := by rw [cancelDisconnect_eq]
@[simp] theorem cancelDisconnect_pm (s : State) : (cancelDisconnect s).pm = s.pm := by rw [cancelDisconnect_eq]
@[simp] theorem cancelDisconnect_probeRet (s : State) : (cancelDisconnect s).probeRet = s.probeRet := by rw [cancelDisconnect_eq]
@[simp] theorem cancelDisconnect_sgFromHalt (s : State) : (cancelDisconnect s).sgFromHalt = s.sgFromHalt := by rw [cancelDisconnect_eq]
@[simp] theorem cancelDisconnect_conn (s : State) : (cancelDisconnect s).conn = .connected := by rw [cancelDisconnect_eq]
@[simp] theorem cancelDisconnect_discReq (s : State) : (cancelDisconnect s).discReq = false := by rw [cancelDisconnect_eq]
@[simp] theorem cancelDisconnect_oweSg (s : State) : (cancelDisconnect s).oweSg = s.oweSg := by rw [cancelDisconnect_eq]
@[simp] theorem cancelDisconnect_wake (s : State) : (cancelDisconnect s).wake = s.wake := by rw [cancelDisconnect_eq]
@[simp] theorem cancelDisconnect_latched (s : State) : (cancelDisconnect s).latched = s.latched := by rw [cancelDisconnect_eq]
@[simp] theorem cancelDisconnect_intrPending (s : State) : (cancelDisconnect s).intrPending = s.intrPending := by rw [cancelDisconnect_eq]
@[simp] theorem cancelDisconnect_deferred (s : State) : (cancelDisconnect s).deferred = s.deferred := by rw [cancelDisconnect_eq]
@[simp] theorem cancelDisconnect_clkCtl (s : State) : (cancelDisconnect s).clkCtl = s.clkCtl := by rw [cancelDisconnect_eq]
@[simp] theorem cancelDisconnect_clockDiv (s : State) : (cancelDisconnect s).clockDiv = s.clockDiv := by rw [cancelDisconnect_eq]
@[simp] theorem cancelDisconnect_sip (s : State) : (cancelDisconnect s).sip = s.sip := by rw [cancelDisconnect_eq]
@[simp] theorem cancelDisconnect_x86 (s : State) : (cancelDisconnect s).x86 = s.x86 := by rw [cancelDisconnect_eq]
@[simp] theorem cancelDisconnect_cache (s : State) : (cancelDisconnect s).cache = s.cache := by rw [cancelDisconnect_eq]
@[simp] theorem cancelDisconnect_mem (s : State) : (cancelDisconnect s).mem = s.mem := by rw [cancelDisconnect_eq]
@[simp] theorem cancelDisconnect_pins (s : State) : (cancelDisconnect s).pins = s.pins := by rw [cancelDisconnect_eq]
@[simp] theorem cancelDisconnect_env (s : State) : (cancelDisconnect s).env = { s.env with probeDue := false } := by rw [cancelDisconnect_eq]
@[simp] theorem cancelDisconnect_times (s : State) : (cancelDisconnect s).times = s.times := by rw [cancelDisconnect_eq]
@[simp] theorem cancelDisconnect_inputs (s : State) : (cancelDisconnect s).inputs = s.inputs := by rw [cancelDisconnect_eq]
@[simp] theorem cancelDisconnect_free (s : State) : (cancelDisconnect s).free = s.free := by rw [cancelDisconnect_eq]

/-! ### `markPin` and `Kind.mark` change pins and times only -/

@[simp] theorem markPin_part (p : EventPin) (b : Bool) (s : State) : (markPin p b s).part = s.part := by cases p <;> rfl
@[simp] theorem markPin_supply (p : EventPin) (b : Bool) (s : State) : (markPin p b s).supply = s.supply := by cases p <;> rfl
@[simp] theorem markPin_rst (p : EventPin) (b : Bool) (s : State) : (markPin p b s).rst = s.rst := by cases p <;> rfl
@[simp] theorem markPin_pm (p : EventPin) (b : Bool) (s : State) : (markPin p b s).pm = s.pm := by cases p <;> rfl
@[simp] theorem markPin_probeRet (p : EventPin) (b : Bool) (s : State) : (markPin p b s).probeRet = s.probeRet := by cases p <;> rfl
@[simp] theorem markPin_sgFromHalt (p : EventPin) (b : Bool) (s : State) : (markPin p b s).sgFromHalt = s.sgFromHalt := by cases p <;> rfl
@[simp] theorem markPin_conn (p : EventPin) (b : Bool) (s : State) : (markPin p b s).conn = s.conn := by cases p <;> rfl
@[simp] theorem markPin_discReq (p : EventPin) (b : Bool) (s : State) : (markPin p b s).discReq = s.discReq := by cases p <;> rfl
@[simp] theorem markPin_oweSg (p : EventPin) (b : Bool) (s : State) : (markPin p b s).oweSg = s.oweSg := by cases p <;> rfl
@[simp] theorem markPin_wake (p : EventPin) (b : Bool) (s : State) : (markPin p b s).wake = s.wake := by cases p <;> rfl
@[simp] theorem markPin_latched (p : EventPin) (b : Bool) (s : State) : (markPin p b s).latched = s.latched := by cases p <;> rfl
@[simp] theorem markPin_intrPending (p : EventPin) (b : Bool) (s : State) : (markPin p b s).intrPending = s.intrPending := by cases p <;> rfl
@[simp] theorem markPin_deferred (p : EventPin) (b : Bool) (s : State) : (markPin p b s).deferred = s.deferred := by cases p <;> rfl
@[simp] theorem markPin_clkCtl (p : EventPin) (b : Bool) (s : State) : (markPin p b s).clkCtl = s.clkCtl := by cases p <;> rfl
@[simp] theorem markPin_clockDiv (p : EventPin) (b : Bool) (s : State) : (markPin p b s).clockDiv = s.clockDiv := by cases p <;> rfl
@[simp] theorem markPin_sip (p : EventPin) (b : Bool) (s : State) : (markPin p b s).sip = s.sip := by cases p <;> rfl
@[simp] theorem markPin_x86 (p : EventPin) (b : Bool) (s : State) : (markPin p b s).x86 = s.x86 := by cases p <;> rfl
@[simp] theorem markPin_cache (p : EventPin) (b : Bool) (s : State) : (markPin p b s).cache = s.cache := by cases p <;> rfl
@[simp] theorem markPin_out (p : EventPin) (b : Bool) (s : State) : (markPin p b s).out = s.out := by cases p <;> rfl
@[simp] theorem markPin_mem (p : EventPin) (b : Bool) (s : State) : (markPin p b s).mem = s.mem := by cases p <;> rfl
@[simp] theorem markPin_env (p : EventPin) (b : Bool) (s : State) : (markPin p b s).env = s.env := by cases p <;> rfl
@[simp] theorem markPin_inputs (p : EventPin) (b : Bool) (s : State) : (markPin p b s).inputs = s.inputs := by cases p <;> rfl
@[simp] theorem markPin_free (p : EventPin) (b : Bool) (s : State) : (markPin p b s).free = s.free := by cases p <;> rfl

end Sys2Proof.Machine
end

