-- ==== Sys2Proof/Laws/Ops.lean ====
section
/-! SUPPORT. Laws/Ops.lean: for each shared operation, once, everything it can do: `require`, the delivery of one event and
of the latched events, and the wake-up rule. -/

namespace Sys2Proof.Machine

/-! ### `require` and `andThen` -/

/-- An answer after a `require` is an answer of the rest, and the condition held. -/
theorem require_next {c : Bool} {r : Refusal} {k : Result} {t : State} :
    require c r k = .next t ↔ c = true ∧ k = .next t := by
  cases c <;> simp [require]

@[simp] theorem require_true (r : Refusal) (k : Result) : require true r k = k := rfl

@[simp] theorem require_false (r : Refusal) (k : Result) : require false r k = .refused r := rfl

/-- A sequence answers when both parts do. -/
theorem andThen_next {o : Result} {k : State → Result} {t : State} :
    andThen o k = .next t ↔ ∃ s, o = .next s ∧ k s = .next t := by
  cases o <;> simp [andThen]

/-- The machine comes to a state only within VCC_CORE's tolerance (43_electrical_thermal.md R240). -/
theorem comeTo_next {s t : State} : comeTo s = .next t ↔ s.vccCoreOk = true ∧ s = t := by
  simp [comeTo, require_next]

/-- Within it, it does. -/
theorem comeTo_ok {s : State} (h : s.vccCoreOk = true) : comeTo s = .next s := comeTo_next.2 ⟨h, rfl⟩

/-- So does time pass in a run. -/
theorem letPass_next {ps : Nat} {s t : State} :
    letPass ps s = .next t ↔ (passTime ps s).vccCoreOk = true ∧ passTime ps s = t := comeTo_next

/-! ### Taking an event -/

/-- Taking an event changes the x86 state, the caches, memory, what was sent, the counter of free values, and, if it is INTR's,
that one pends. -/
theorem deliver_eq (k : Kind) (m : Opaque) (s : State) :
    deliver k m s = { s with
      intrPending := (deliver k m s).intrPending, x86 := (deliver k m s).x86, cache := (deliver k m s).cache, mem := (deliver k m s).mem,
      out := (deliver k m s).out, free := (deliver k m s).free } := by
  cases k <;> rfl

/-- Only INTR runs an interrupt acknowledge. -/
@[simp] theorem deliver_out (k : Kind) (m : Opaque) (s : State) :
    (deliver k m s).out = s.out ++ if k = .intr then [.intAck s.env.vector] else [] := by
  cases k <;> simp [deliver]

/-- Once an INTR is taken none pends; the other kinds leave it. -/
@[simp] theorem deliver_intrPending (k : Kind) (m : Opaque) (s : State) :
    (deliver k m s).intrPending = (s.intrPending && k != .intr) := by
  cases k <;> simp [deliver, deliverX86, deliverInit, enterSmm, applyEffect, emit]

/-- Taking an event keeps memory's canonical form. -/
theorem deliver_wf (k : Kind) (m : Opaque) (s : State) (h : s.mem.wf = true) : (deliver k m s).mem.wf = true := by
  cases k <;> first | exact h | exact wf_storeAll _ _ _ h

/-- Taking an event keeps the caches' organisation. -/
theorem deliver_organised (k : Kind) (m : Opaque) (s : State) (h : s.cache.Organised) : (deliver k m s).cache.Organised := by
  cases k <;> first | exact h | exact (Caches.organised_fit _).under _ _

@[simp] theorem deliver_part (k : Kind) (m : Opaque) (s : State) : (deliver k m s).part = s.part := by rw [deliver_eq]
@[simp] theorem deliver_supply (k : Kind) (m : Opaque) (s : State) : (deliver k m s).supply = s.supply := by rw [deliver_eq]
@[simp] theorem deliver_rst (k : Kind) (m : Opaque) (s : State) : (deliver k m s).rst = s.rst := by rw [deliver_eq]
@[simp] theorem deliver_pm (k : Kind) (m : Opaque) (s : State) : (deliver k m s).pm = s.pm := by rw [deliver_eq]
@[simp] theorem deliver_probeRet (k : Kind) (m : Opaque) (s : State) : (deliver k m s).probeRet = s.probeRet := by rw [deliver_eq]
@[simp] theorem deliver_sgFromHalt (k : Kind) (m : Opaque) (s : State) : (deliver k m s).sgFromHalt = s.sgFromHalt := by rw [deliver_eq]
@[simp] theorem deliver_conn (k : Kind) (m : Opaque) (s : State) : (deliver k m s).conn = s.conn := by rw [deliver_eq]
@[simp] theorem deliver_discReq (k : Kind) (m : Opaque) (s : State) : (deliver k m s).discReq = s.discReq := by rw [deliver_eq]
@[simp] theorem deliver_oweSg (k : Kind) (m : Opaque) (s : State) : (deliver k m s).oweSg = s.oweSg := by rw [deliver_eq]
@[simp] theorem deliver_wake (k : Kind) (m : Opaque) (s : State) : (deliver k m s).wake = s.wake := by rw [deliver_eq]
@[simp] theorem deliver_latched (k : Kind) (m : Opaque) (s : State) : (deliver k m s).latched = s.latched := by rw [deliver_eq]
@[simp] theorem deliver_deferred (k : Kind) (m : Opaque) (s : State) : (deliver k m s).deferred = s.deferred := by rw [deliver_eq]
@[simp] theorem deliver_clkCtl (k : Kind) (m : Opaque) (s : State) : (deliver k m s).clkCtl = s.clkCtl := by rw [deliver_eq]
@[simp] theorem deliver_clockDiv (k : Kind) (m : Opaque) (s : State) : (deliver k m s).clockDiv = s.clockDiv := by rw [deliver_eq]
@[simp] theorem deliver_sip (k : Kind) (m : Opaque) (s : State) : (deliver k m s).sip = s.sip := by rw [deliver_eq]
@[simp] theorem deliver_pins (k : Kind) (m : Opaque) (s : State) : (deliver k m s).pins = s.pins := by rw [deliver_eq]
@[simp] theorem deliver_env (k : Kind) (m : Opaque) (s : State) : (deliver k m s).env = s.env := by rw [deliver_eq]
@[simp] theorem deliver_times (k : Kind) (m : Opaque) (s : State) : (deliver k m s).times = s.times := by rw [deliver_eq]
@[simp] theorem deliver_inputs (k : Kind) (m : Opaque) (s : State) : (deliver k m s).inputs = s.inputs := by rw [deliver_eq]

/-! ### The turn of a recognised event -/

/-- Allowed, it is taken (40_power_states.md R142). -/
theorem takeEvent_taken {k : Kind} {s : State} (m : Opaque) (h : s.deliverable k = true) : takeEvent k m s = deliver k m s := by
  simp [takeEvent, h]

/-- Every kind but INTR is. -/
@[simp] theorem deliverable_of_ne {k : Kind} (s : State) (h : k ≠ .intr) : s.deliverable k = true := by
  simp [State.deliverable, h]

@[simp] theorem deliverable_intr (s : State) : s.deliverable .intr = !s.x86.intrMasked := rfl

/-- Masked, an INTR pends and nothing else happens (R142, log entry 23). -/
theorem takeEvent_pends {s : State} (m : Opaque) (h : s.x86.intrMasked = true) :
    takeEvent .intr m s = { s with intrPending := true } := by
  simp [takeEvent, h]

/-- Everything the turn of an event can change. -/
theorem takeEvent_eq (k : Kind) (m : Opaque) (s : State) :
    takeEvent k m s = { s with
      intrPending := (takeEvent k m s).intrPending, x86 := (takeEvent k m s).x86, cache := (takeEvent k m s).cache,
      mem := (takeEvent k m s).mem, out := (takeEvent k m s).out, free := (takeEvent k m s).free } := by
  unfold takeEvent
  split
  · exact deliver_eq _ _ _
  · rfl

/-- Only an INTR that is taken runs an interrupt acknowledge. -/
@[simp] theorem takeEvent_out (k : Kind) (m : Opaque) (s : State) :
    (takeEvent k m s).out = s.out ++ if k == .intr && !s.x86.intrMasked then [.intAck s.env.vector] else [] := by
  cases k <;> simp [takeEvent]
  cases s.x86.intrMasked <;> simp

/-- After an INTR's turn one pends if it was masked; the other kinds leave it. -/
@[simp] theorem takeEvent_intrPending (k : Kind) (m : Opaque) (s : State) :
    (takeEvent k m s).intrPending = if k = .intr then s.x86.intrMasked else s.intrPending := by
  cases k <;> simp [takeEvent]
  cases s.x86.intrMasked <;> simp

theorem takeEvent_wf (k : Kind) (m : Opaque) (s : State) (h : s.mem.wf = true) : (takeEvent k m s).mem.wf = true := by
  unfold takeEvent
  split
  · exact deliver_wf _ _ _ h
  · exact h

theorem takeEvent_organised (k : Kind) (m : Opaque) (s : State) (h : s.cache.Organised) :
    (takeEvent k m s).cache.Organised := by
  unfold takeEvent
  split
  · exact deliver_organised _ _ _ h
  · exact h

@[simp] theorem takeEvent_part (k : Kind) (m : Opaque) (s : State) : (takeEvent k m s).part = s.part := by rw [takeEvent_eq]
@[simp] theorem takeEvent_supply (k : Kind) (m : Opaque) (s : State) : (takeEvent k m s).supply = s.supply := by rw [takeEvent_eq]
@[simp] theorem takeEvent_rst (k : Kind) (m : Opaque) (s : State) : (takeEvent k m s).rst = s.rst := by rw [takeEvent_eq]
@[simp] theorem takeEvent_pm (k : Kind) (m : Opaque) (s : State) : (takeEvent k m s).pm = s.pm := by rw [takeEvent_eq]
@[simp] theorem takeEvent_probeRet (k : Kind) (m : Opaque) (s : State) : (takeEvent k m s).probeRet = s.probeRet := by rw [takeEvent_eq]
@[simp] theorem takeEvent_sgFromHalt (k : Kind) (m : Opaque) (s : State) : (takeEvent k m s).sgFromHalt = s.sgFromHalt := by rw [takeEvent_eq]
@[simp] theorem takeEvent_conn (k : Kind) (m : Opaque) (s : State) : (takeEvent k m s).conn = s.conn := by rw [takeEvent_eq]
@[simp] theorem takeEvent_discReq (k : Kind) (m : Opaque) (s : State) : (takeEvent k m s).discReq = s.discReq := by rw [takeEvent_eq]
@[simp] theorem takeEvent_oweSg (k : Kind) (m : Opaque) (s : State) : (takeEvent k m s).oweSg = s.oweSg := by rw [takeEvent_eq]
@[simp] theorem takeEvent_wake (k : Kind) (m : Opaque) (s : State) : (takeEvent k m s).wake = s.wake := by rw [takeEvent_eq]
@[simp] theorem takeEvent_latched (k : Kind) (m : Opaque) (s : State) : (takeEvent k m s).latched = s.latched := by rw [takeEvent_eq]
@[simp] theorem takeEvent_deferred (k : Kind) (m : Opaque) (s : State) : (takeEvent k m s).deferred = s.deferred := by rw [takeEvent_eq]
@[simp] theorem takeEvent_clkCtl (k : Kind) (m : Opaque) (s : State) : (takeEvent k m s).clkCtl = s.clkCtl := by rw [takeEvent_eq]
@[simp] theorem takeEvent_clockDiv (k : Kind) (m : Opaque) (s : State) : (takeEvent k m s).clockDiv = s.clockDiv := by rw [takeEvent_eq]
@[simp] theorem takeEvent_sip (k : Kind) (m : Opaque) (s : State) : (takeEvent k m s).sip = s.sip := by rw [takeEvent_eq]
@[simp] theorem takeEvent_pins (k : Kind) (m : Opaque) (s : State) : (takeEvent k m s).pins = s.pins := by rw [takeEvent_eq]
@[simp] theorem takeEvent_env (k : Kind) (m : Opaque) (s : State) : (takeEvent k m s).env = s.env := by rw [takeEvent_eq]
@[simp] theorem takeEvent_times (k : Kind) (m : Opaque) (s : State) : (takeEvent k m s).times = s.times := by rw [takeEvent_eq]
@[simp] theorem takeEvent_inputs (k : Kind) (m : Opaque) (s : State) : (takeEvent k m s).inputs = s.inputs := by rw [takeEvent_eq]

/-! ### Delivering what is latched -/

/-- Delivering one kind if it is latched changes what delivering changes. -/
theorem deliverIf_eq (l : Latched) (s : State) (k : Kind) :
    deliverIf l s k = { s with
      intrPending := (deliverIf l s k).intrPending, x86 := (deliverIf l s k).x86, cache := (deliverIf l s k).cache, mem := (deliverIf l s k).mem,
      out := (deliverIf l s k).out, free := (deliverIf l s k).free } := by
  unfold deliverIf
  split
  · exact takeEvent_eq _ _ _
  · rfl

@[simp] theorem deliverIf_out (l : Latched) (s : State) (k : Kind) :
    (deliverIf l s k).out =
      s.out ++ if l.has k && (k == .intr && !s.x86.intrMasked) then [.intAck s.env.vector] else [] := by
  unfold deliverIf
  cases h : l.has k <;> simp

@[simp] theorem deliverIf_intrPending (l : Latched) (s : State) (k : Kind) :
    (deliverIf l s k).intrPending = if l.has k ∧ k = .intr then s.x86.intrMasked else s.intrPending := by
  unfold deliverIf
  cases h : l.has k <;> simp

theorem deliverIf_wf (l : Latched) (s : State) (k : Kind) (h : s.mem.wf = true) : (deliverIf l s k).mem.wf = true := by
  unfold deliverIf
  split
  · exact takeEvent_wf _ _ _ h
  · exact h

theorem deliverIf_organised (l : Latched) (s : State) (k : Kind) (h : s.cache.Organised) :
    (deliverIf l s k).cache.Organised := by
  unfold deliverIf
  split
  · exact takeEvent_organised _ _ _ h
  · exact h

@[simp] theorem deliverIf_part (l : Latched) (s : State) (k : Kind) : (deliverIf l s k).part = s.part := by rw [deliverIf_eq]
@[simp] theorem deliverIf_supply (l : Latched) (s : State) (k : Kind) : (deliverIf l s k).supply = s.supply := by rw [deliverIf_eq]
@[simp] theorem deliverIf_rst (l : Latched) (s : State) (k : Kind) : (deliverIf l s k).rst = s.rst := by rw [deliverIf_eq]
@[simp] theorem deliverIf_pm (l : Latched) (s : State) (k : Kind) : (deliverIf l s k).pm = s.pm := by rw [deliverIf_eq]
@[simp] theorem deliverIf_probeRet (l : Latched) (s : State) (k : Kind) : (deliverIf l s k).probeRet = s.probeRet := by rw [deliverIf_eq]
@[simp] theorem deliverIf_sgFromHalt (l : Latched) (s : State) (k : Kind) : (deliverIf l s k).sgFromHalt = s.sgFromHalt := by rw [deliverIf_eq]
@[simp] theorem deliverIf_conn (l : Latched) (s : State) (k : Kind) : (deliverIf l s k).conn = s.conn := by rw [deliverIf_eq]
@[simp] theorem deliverIf_discReq (l : Latched) (s : State) (k : Kind) : (deliverIf l s k).discReq = s.discReq := by rw [deliverIf_eq]
@[simp] theorem deliverIf_oweSg (l : Latched) (s : State) (k : Kind) : (deliverIf l s k).oweSg = s.oweSg := by rw [deliverIf_eq]
@[simp] theorem deliverIf_wake (l : Latched) (s : State) (k : Kind) : (deliverIf l s k).wake = s.wake := by rw [deliverIf_eq]
@[simp] theorem deliverIf_latched (l : Latched) (s : State) (k : Kind) : (deliverIf l s k).latched = s.latched := by rw [deliverIf_eq]
@[simp] theorem deliverIf_deferred (l : Latched) (s : State) (k : Kind) : (deliverIf l s k).deferred = s.deferred := by rw [deliverIf_eq]
@[simp] theorem deliverIf_clkCtl (l : Latched) (s : State) (k : Kind) : (deliverIf l s k).clkCtl = s.clkCtl := by rw [deliverIf_eq]
@[simp] theorem deliverIf_clockDiv (l : Latched) (s : State) (k : Kind) : (deliverIf l s k).clockDiv = s.clockDiv := by rw [deliverIf_eq]
@[simp] theorem deliverIf_sip (l : Latched) (s : State) (k : Kind) : (deliverIf l s k).sip = s.sip := by rw [deliverIf_eq]
@[simp] theorem deliverIf_pins (l : Latched) (s : State) (k : Kind) : (deliverIf l s k).pins = s.pins := by rw [deliverIf_eq]
@[simp] theorem deliverIf_env (l : Latched) (s : State) (k : Kind) : (deliverIf l s k).env = s.env := by rw [deliverIf_eq]
@[simp] theorem deliverIf_times (l : Latched) (s : State) (k : Kind) : (deliverIf l s k).times = s.times := by rw [deliverIf_eq]
@[simp] theorem deliverIf_inputs (l : Latched) (s : State) (k : Kind) : (deliverIf l s k).inputs = s.inputs := by rw [deliverIf_eq]

/-- The five deliveries, written out in their order (60_exceptions.md R414). -/
theorem deliverLatched_unfold (s : State) :
    deliverLatched s = { deliverIf s.latched (deliverIf s.latched (deliverIf s.latched (deliverIf s.latched
      (deliverIf s.latched s .init) .smi) .nmi) .apic) .intr with latched := .empty } := rfl

/-- With nothing latched, delivering does nothing but empty the set. -/
theorem deliverLatched_none (s : State) (h : s.latched.any = false) : deliverLatched s = { s with latched := .empty } := by
  simp [Latched.any] at h
  simp [deliverLatched_unfold, deliverIf, Latched.has, h]

/-- The four before INTR, written out. -/
theorem atIntr_unfold (s : State) : s.atIntr = deliverIf s.latched (deliverIf s.latched (deliverIf s.latched
    (deliverIf s.latched s .init) .smi) .nmi) .apic := rfl

/-- INTR's turn is the last. -/
theorem deliverLatched_atIntr (s : State) :
    deliverLatched s = { deliverIf s.latched s.atIntr .intr with latched := .empty } := rfl

@[simp] theorem atIntr_out (s : State) : s.atIntr.out = s.out := by simp [atIntr_unfold]
@[simp] theorem atIntr_intrPending (s : State) : s.atIntr.intrPending = s.intrPending := by simp [atIntr_unfold]
@[simp] theorem atIntr_env (s : State) : s.atIntr.env = s.env := by simp [atIntr_unfold]

/-- At most one interrupt acknowledge is sent. -/
@[simp] theorem deliverLatched_out (s : State) : (deliverLatched s).out = s.out ++ s.latchedAck := by
  simp [deliverLatched_atIntr, Latched.has, State.latchedAck]

/-- None where nothing is latched. -/
theorem latchedAck_none (s : State) (h : s.latched.any = false) : s.latchedAck = [] := by
  simp [Latched.any] at h
  simp [State.latchedAck, h]

/-- A latched INTR pends afterwards if it was masked at its turn. -/
theorem deliverLatched_intrPending (s : State) :
    (deliverLatched s).intrPending = if s.latched.intr then s.atIntr.x86.intrMasked else s.intrPending := by
  simp [deliverLatched_atIntr, Latched.has]

theorem deliverLatched_wf (s : State) (h : s.mem.wf = true) : (deliverLatched s).mem.wf = true := by
  simp only [deliverLatched_unfold]
  exact deliverIf_wf _ _ _ (deliverIf_wf _ _ _ (deliverIf_wf _ _ _ (deliverIf_wf _ _ _ (deliverIf_wf _ _ _ h))))

theorem deliverLatched_organised (s : State) (h : s.cache.Organised) : (deliverLatched s).cache.Organised := by
  simp only [deliverLatched_unfold]
  exact deliverIf_organised _ _ _ (deliverIf_organised _ _ _ (deliverIf_organised _ _ _ (deliverIf_organised _ _ _
    (deliverIf_organised _ _ _ h))))

@[simp] theorem deliverLatched_latched (s : State) : (deliverLatched s).latched = .empty := rfl

@[simp] theorem deliverLatched_part (s : State) : (deliverLatched s).part = s.part := by simp [deliverLatched_unfold]
@[simp] theorem deliverLatched_supply (s : State) : (deliverLatched s).supply = s.supply := by simp [deliverLatched_unfold]
@[simp] theorem deliverLatched_rst (s : State) : (deliverLatched s).rst = s.rst := by simp [deliverLatched_unfold]
@[simp] theorem deliverLatched_pm (s : State) : (deliverLatched s).pm = s.pm := by simp [deliverLatched_unfold]
@[simp] theorem deliverLatched_probeRet (s : State) : (deliverLatched s).probeRet = s.probeRet := by simp [deliverLatched_unfold]
@[simp] theorem deliverLatched_sgFromHalt (s : State) : (deliverLatched s).sgFromHalt = s.sgFromHalt := by simp [deliverLatched_unfold]
@[simp] theorem deliverLatched_conn (s : State) : (deliverLatched s).conn = s.conn := by simp [deliverLatched_unfold]
@[simp] theorem deliverLatched_discReq (s : State) : (deliverLatched s).discReq = s.discReq := by simp [deliverLatched_unfold]
@[simp] theorem deliverLatched_oweSg (s : State) : (deliverLatched s).oweSg = s.oweSg := by simp [deliverLatched_unfold]
@[simp] theorem deliverLatched_wake (s : State) : (deliverLatched s).wake = s.wake := by simp [deliverLatched_unfold]
@[simp] theorem deliverLatched_deferred (s : State) : (deliverLatched s).deferred = s.deferred := by simp [deliverLatched_unfold]
@[simp] theorem deliverLatched_clkCtl (s : State) : (deliverLatched s).clkCtl = s.clkCtl := by simp [deliverLatched_unfold]
@[simp] theorem deliverLatched_clockDiv (s : State) : (deliverLatched s).clockDiv = s.clockDiv := by simp [deliverLatched_unfold]
@[simp] theorem deliverLatched_sip (s : State) : (deliverLatched s).sip = s.sip := by simp [deliverLatched_unfold]
@[simp] theorem deliverLatched_pins (s : State) : (deliverLatched s).pins = s.pins := by simp [deliverLatched_unfold]
@[simp] theorem deliverLatched_env (s : State) : (deliverLatched s).env = s.env := by simp [deliverLatched_unfold]
@[simp] theorem deliverLatched_times (s : State) : (deliverLatched s).times = s.times := by simp [deliverLatched_unfold]
@[simp] theorem deliverLatched_inputs (s : State) : (deliverLatched s).inputs = s.inputs := by simp [deliverLatched_unfold]

/-- Everything delivering the latched events can do. -/
theorem deliverLatched_eq (s : State) :
    deliverLatched s = { s with
      intrPending := (deliverLatched s).intrPending, x86 := (deliverLatched s).x86, cache := (deliverLatched s).cache, mem := (deliverLatched s).mem,
      out := (deliverLatched s).out, free := (deliverLatched s).free, latched := .empty } := by
  apply State.ext <;> simp

/-! ### What delivery depends on -/

/-- Taking an event depends on, and acts on, these fields alone. -/
structure SameForX86 (s u : State) : Prop where
  x86 : s.x86 = u.x86
  mem : s.mem = u.mem
  cache : s.cache = u.cache
  pins : s.pins = u.pins
  vector : s.env.vector = u.env.vector
  free : s.free = u.free
  pending : s.intrPending = u.intrPending

/-- Two states that agree on them answer alike. -/
theorem SameForX86.deliver {s u : State} (h : SameForX86 s u) (k : Kind) (m : Opaque) :
    SameForX86 (deliver k m s) (deliver k m u) := by
  obtain ⟨hx, hm, hc, hp, he, hf, hi⟩ := h
  cases k <;> constructor <;>
    simp [Machine.deliver, deliverX86, deliverInit, enterSmm, applyEffect, busView, emit, hx, hm, hc, hp, he, hf, hi]

theorem SameForX86.takeEvent {s u : State} (h : SameForX86 s u) (k : Kind) (m : Opaque) :
    SameForX86 (takeEvent k m s) (takeEvent k m u) := by
  have hd : s.deliverable k = u.deliverable k := by simp [State.deliverable, h.x86]
  unfold Machine.takeEvent
  rw [hd]
  split
  · exact h.deliver _ _
  · exact ⟨h.x86, h.mem, h.cache, h.pins, h.vector, h.free, rfl⟩

theorem SameForX86.deliverIf {s u : State} (h : SameForX86 s u) (l : Latched) (k : Kind) :
    SameForX86 (deliverIf l s k) (deliverIf l u k) := by
  unfold Machine.deliverIf
  split
  · exact h.takeEvent _ _
  · exact h

/-- The same of everything latched. -/
theorem SameForX86.deliverLatched {s u : State} (h : SameForX86 s u) (hl : s.latched = u.latched) :
    SameForX86 (deliverLatched s) (deliverLatched u) := by
  have := ((((h.deliverIf s.latched .init).deliverIf s.latched .smi).deliverIf s.latched .nmi).deliverIf
    s.latched .apic).deliverIf s.latched .intr
  simp only [deliverLatched_unfold, ← hl]
  exact ⟨this.x86, this.mem, this.cache, this.pins, this.vector, this.free, this.pending⟩

/-- And they send the same acknowledge, if any. -/
theorem SameForX86.latchedAck {s u : State} (h : SameForX86 s u) (hl : s.latched = u.latched) : s.latchedAck = u.latchedAck := by
  have := (((h.deliverIf s.latched .init).deliverIf s.latched .smi).deliverIf s.latched .nmi).deliverIf s.latched .apic
  simp only [State.latchedAck, atIntr_unfold, ← hl, this.x86, h.vector]

/-! ### The set of latched events -/

@[simp] theorem Latched.any_empty : Latched.empty.any = false := rfl

@[simp] theorem Latched.any_add (l : Latched) (k : Kind) (m : Opaque) : (l.add k m).any = true := by
  cases k <;> simp [Latched.add, Latched.any]
  split <;> simp_all

@[simp] theorem Latched.has_add (l : Latched) (k j : Kind) (m : Opaque) :
    (l.add k m).has j = (l.has j || k == j) := by
  cases k <;> cases j <;> simp [Latched.add, Latched.has] <;> split <;> simp_all

/-- With one event latched, delivering the set is taking it, if `X86_ISA` allows it. -/
theorem deliverLatched_one {s : State} {l : Latched} {k : Kind} {m : Opaque} (hl : l.any = false) (h : s.latched = l.add k m)
    (hd : s.deliverable k = true) : deliverLatched s = { deliver k m s with latched := .empty } := by
  simp [Latched.any] at hl
  have ht : ∀ n, takeEvent k n s = deliver k n s := fun n => takeEvent_taken n hd
  simp only [deliverLatched_unfold, deliverIf, h, Latched.has_add]
  cases k <;> simp_all [Latched.has, Latched.add] <;> exact ⟨rfl, rfl, rfl, rfl⟩

/-- And an INTR among one has its acknowledge. -/
theorem latchedAck_one {s : State} {l : Latched} {k : Kind} {m : Opaque} (hl : l.any = false) (h : s.latched = l.add k m)
    (hd : s.deliverable k = true) : s.latchedAck = if k = .intr then [.intAck s.env.vector] else [] := by
  have h1 := deliverLatched_out s
  rw [deliverLatched_one hl h hd] at h1
  exact (List.append_cancel_left ((deliver_out k m s).symm.trans h1)).symm

/-! ### The wake-up rule -/

/-- A wake-up event while the bus operates (40_power_states.md R137). -/
theorem wakeUp_up (k : State → State) (s : State) (h : s.busUp = true) : wakeUp k s = k (cancelDisconnect s) := by
  simp [wakeUp, h]

/-- A wake-up event while the bus is off or coming up (R137). -/
theorem wakeUp_down (k : State → State) (s : State) (h : s.busUp = false) : wakeUp k s = oweConnect s := by
  simp [wakeUp, h]

/-! ### Edges of STPCLK# -/

/-- STPCLK# asserted in Halt (R139). -/
theorem stpclkEdge_halt {s : State} (h : s.pm = .halt) : stpclkEdge true s = stopGrantFromHalt s := by
  simp [stpclkEdge, h]

/-- STPCLK# deasserted in Stop Grant (R142). -/
theorem stpclkEdge_stopGrant {s : State} (h : s.pm = .stopGrant) : stpclkEdge false s = wakeUp finishStopGrant s := by
  simp [stpclkEdge, h]

/-- Any other edge is a level only (R156). -/
theorem stpclkEdge_none {s : State} {b : Bool} (h1 : ¬(s.pm = .halt ∧ b = true)) (h2 : ¬(s.pm = .stopGrant ∧ b = false)) :
    stpclkEdge b s = s := by
  cases hp : s.pm <;> cases b <;> simp_all [stpclkEdge]

end Sys2Proof.Machine
end

