-- ==== Sys2Proof/Laws/Inv.lean ====
section
/-! SUPPORT. Laws/Inv.lean: the operations of the power and connect machines keep the invariant of Safety.lean. -/

namespace Sys2Proof.Machine

/-! ### Updates that touch none of the fields the invariant is about -/

@[simp] theorem levelBefore_nil (level : Bool) : levelBefore [] level = level := rfl

/-- A higher level of STPCLK# now is no lower level before what is deferred. -/
theorem levelBefore_mono {ds : List Deferred} {a b : Bool} (h : a = true → b = true) :
    levelBefore ds a = true → levelBefore ds b = true := by
  induction ds with
  | nil => exact h
  | cons d ds ih => cases d <;> simp_all [levelBefore]

/-- The level before an edge that comes last is the other one before all that came earlier. -/
@[simp] theorem levelBefore_stpclk (ds : List Deferred) (b level : Bool) :
    levelBefore (ds ++ [.stpclk b]) level = levelBefore ds (!b) := by
  induction ds with
  | nil => rfl
  | cons d ds ih => cases d <;> simp_all [levelBefore]

@[simp] theorem levelBefore_event (ds : List Deferred) (k : Kind) (m : Opaque) (level : Bool) :
    levelBefore (ds ++ [.event k m]) level = levelBefore ds level := by
  induction ds with
  | nil => rfl
  | cons d ds ih => cases d <;> simp_all [levelBefore]

/-- Something waits only in Probe. -/
theorem Inv.nil_of_ne {s : State} (hi : Inv s) (hp : s.pm ≠ .probe) : s.deferred = [] := by
  by_contra h; exact hp (hi.deferring h).1

/-- Something waits only with the bus connected. -/
theorem Inv.nil_of_conn {s : State} (hi : Inv s) (hc : s.conn ≠ .connected) : s.deferred = [] := by
  by_contra h; exact hc (hi.deferring h).2.1

/-- Something waits only while a probe is being serviced. -/
theorem Inv.nil_of_servicing {s : State} (hi : Inv s) (h : s.servicing = false) : s.deferred = [] := by
  by_contra h'; have := hi.deferring h'; simp_all [State.servicing]

/-- The invariant depends on memory only through its canonical form, and on the pins through the clauses named here. -/
theorem Inv.of_eq {s t : State} (hi : Inv s) (hm : t.mem.wf = true)
    (hpart : t.part = s.part) (hrun : t.running = true → s.running = true) (hrst : t.rst = s.rst)
    (hpm : t.pm = s.pm) (hret : t.probeRet = s.probeRet) (hfh : t.sgFromHalt = s.sgFromHalt)
    (hconn : t.conn = s.conn) (hreq : t.discReq = s.discReq) (howe : t.oweSg = s.oweSg) (hwake : t.wake = s.wake)
    (hlat : t.latched = s.latched) (hclk : t.clkCtl = s.clkCtl ∨ s.conn ≠ .disconnected)
    (hdiv : t.clockDiv = s.clockDiv) (hsip : t.sip = s.sip)
    (hreset : t.pins.reset = true → s.pins.reset = true)
    (hfit : s.running = true → t.pins.fitConn s.conn = s.pins.fitConn s.conn)
    (hstp : s.running = true → s.pins.stpclk = true → t.pins.stpclk = true ∨ s.restPm ≠ .stopGrant)
    (hcache : t.cache.Organised) (hdef : t.deferred = s.deferred := by rfl)
    (hout : s.env.probeOutstanding = true → t.env.probeOutstanding = true := by exact fun h => h)
    (hnb : (s.env.nbReset = true → s.pins.connect = true) → t.env.nbReset = true →
      t.pins.connect = true := by exact fun h => h) : Inv t := by
  have hr : t.restPm = s.restPm := by simp [State.restPm, hpm, hret]
  exact {
    mem := hm
    resetPin := fun h => hrst ▸ hi.resetPin (hreset h)
    cleared := by rw [hrst, hpm, hfh, howe]; exact hi.cleared
    lowPower := by simp only [State.lowPower, hconn, hpm]; exact hi.lowPower
    working := by rw [hpm, hconn]; exact hi.working
    probe := by rw [hpm, hconn]; exact hi.probe
    invited := by rw [hpm, hreq, hwake]; exact hi.invited
    wakeConn := by rw [hwake, hconn]; exact hi.wakeConn
    probeWake := by rw [hpm, hwake]; exact hi.probeWake
    fromHalt := by rw [hfh, hr]; exact hi.fromHalt
    owed := by rw [howe, hpm, hfh, hwake]; exact hi.owed
    served := by rw [hpm, hlat]; exact hi.served
    waking := by rw [hr, hlat, hwake]; exact hi.waking
    fullSpeed := by rw [hconn, hdiv]; exact hi.fullSpeed
    divided := by
      rw [hconn, hwake, hdiv]
      rcases hclk with h | h
      · simp only [State.disconnectDiv, hpm, h]; exact hi.divided
      · exact fun h' => absurd h' h
    pins := fun h => by rw [hconn, hfit (hrun h)]; exact hi.pins (hrun h)
    stpclk := fun h h1 h2 => by
      rw [hr] at h1; rw [hwake, howe] at h2
      rw [hdef]
      exact levelBefore_mono (fun hs => (hstp (hrun h) hs).resolve_right (fun h3 => h3 h1)) (hi.stpclk (hrun h) h1 h2)
    deferring := by rw [hdef, hpm, hconn]; exact fun h => ⟨(hi.deferring h).1, (hi.deferring h).2.1, hout (hi.deferring h).2.2⟩
    sip := by rw [hrst, hsip, hpart]; exact hi.sip
    organised := hcache
    nbReset := hnb hi.nbReset }

/-- An update of the x86 state, a pending INTR, caches, memory, output, environment, times, schedule and counter alone. -/
theorem Inv.update {s : State} (hi : Inv s) {b : Bool} {x : X86} {c : Caches} {m : Memory} {o : List OutEvent} {e : Env}
    {t : Times} {is : List Input} {n : Nat} (hm : m.wf = true) (hc : c.Organised)
    (he : s.env.probeOutstanding = true → e.probeOutstanding = true := by exact fun h => h)
    (hn : e.nbReset = true → s.env.nbReset = true := by exact fun h => h) :
    Inv { s with
      intrPending := b, x86 := x, cache := c, mem := m, out := o, env := e, times := t, inputs := is, free := n } :=
  hi.of_eq hm rfl id rfl rfl rfl rfl rfl rfl rfl rfl rfl (.inl rfl) rfl rfl id (fun _ => rfl) (fun _ h => .inl h) hc rfl he
    fun h h' => h (hn h')

/-- Taking an event keeps the invariant. -/
theorem Inv.deliver {s : State} (hi : Inv s) (k : Kind) (m : Opaque) : Inv (deliver k m s) := by
  rw [deliver_eq]
  exact hi.update (deliver_wf _ _ _ hi.mem) (deliver_organised _ _ _ hi.organised)

/-- So does its turn. -/
theorem Inv.takeEvent {s : State} (hi : Inv s) (k : Kind) (m : Opaque) : Inv (takeEvent k m s) := by
  rw [takeEvent_eq]
  exact hi.update (takeEvent_wf _ _ _ hi.mem) (takeEvent_organised _ _ _ hi.organised)

/-! ### Operations of the power machine -/

/-- Leaving Probe depends on neither the pins, the environment nor the times. -/
theorem leaveProbe_with (s : State) (p : Pins) (e : Env) (tm : Times) :
    leaveProbe { s with pins := p, env := e, times := tm } = { leaveProbe s with pins := p, env := e, times := tm } := by
  cases h : s.pm <;> simp [leaveProbe, h]

/-- A state behind a Probe is no Probe. -/
theorem leaveProbe_ne (s : State) : (leaveProbe s).pm ≠ .probe := by
  rw [leaveProbe_pm]
  split
  · cases s.probeRet <;> decide
  · assumption

/-- Leaving Probe goes to the resting state. -/
theorem leaveProbe_restPm (s : State) : (leaveProbe s).pm = s.restPm := by
  cases h : s.pm <;> simp [State.restPm, Power.behind, h]

@[simp] theorem Power.behind_toPower (r q : Resting) : r.toPower.behind q = r.toPower := by cases r <;> rfl

@[simp] theorem restPm_leaveProbe (s : State) : (Machine.leaveProbe s).restPm = s.restPm := by
  cases h : s.pm <;> simp [State.restPm, Power.behind, h]
  cases s.probeRet <;> rfl

/-- Outside Probe the resting state is the power state. -/
theorem restPm_of_ne {s : State} (h : s.pm ≠ .probe) : s.restPm = s.pm := by
  cases h' : s.pm <;> simp_all [State.restPm, Power.behind]

theorem Inv.leaveProbe {s : State} (hi : Inv s) (hd : s.deferred = []) : Inv (leaveProbe s) := by
  by_cases hp : s.pm = .probe
  · obtain ⟨mem, resetPin, cleared, lowPower, working, probe, invited, wakeConn, probeWake, fromHalt, owed, served,
      waking, fullSpeed, divided, pins, stpclk, deferring, sip⟩ := hi
    have hc := probe hp
    have hw := probeWake hp
    cases hr : s.probeRet <;>
      constructor <;>
      simp_all [State.lowPower, State.restPm, Power.behind, State.running, Resting.toPower]
  · have : Machine.leaveProbe s = s := by unfold Machine.leaveProbe; split <;> first | contradiction | rfl
    rwa [this]


/-! ### Connected states -/

/-- What the invariant asks of a running or resetting state whose bus is connected and in which nothing is owed: the power
state settles the rest. -/
theorem Inv.of_connected {s : State} (mem : s.mem.wf = true) (rst : s.pins.reset = true → s.rst = .inReset)
    (hrst : s.rst ≠ .run → s.pm = .working) (hconn : s.conn = .connected) (hp : s.pm ≠ .probe) (hwake : s.wake = false)
    (howe : s.oweSg = false) (hreq : s.discReq = !(s.pm == .working)) (hfh : s.sgFromHalt = true → s.pm = .stopGrant)
    (hlat : s.pm ≠ .stopGrant → s.latched.any = false) (hdiv : s.clockDiv = 1)
    (hfit : s.running = true → s.pins.fitConn .connected = true)
    (hstp : s.running = true → s.pm = .stopGrant → s.pins.stpclk = true)
    (hsip : s.rst = .run → s.sip.sysPushPull = true ∧ s.sip.forFid = s.part.fid)
    (hcache : s.cache.Organised) (hd : s.deferred = [])
    (hnb : s.env.nbReset = true → s.pins.connect = true) : Inv s := by
  have hr := restPm_of_ne hp
  constructor <;> simp_all [State.lowPower]
  · intro h; cases hf : s.sgFromHalt <;> simp_all

/-- Delivering what is latched, in a connected Working state. -/
theorem Inv.deliverLatched {s : State} (mem : s.mem.wf = true) (rst : s.pins.reset = true → s.rst = .inReset)
    (hconn : s.conn = .connected) (hp : s.pm = .working) (hwake : s.wake = false) (howe : s.oweSg = false)
    (hreq : s.discReq = false) (hfh : s.sgFromHalt = false) (hdiv : s.clockDiv = 1)
    (hfit : s.running = true → s.pins.fitConn .connected = true)
    (hsip : s.rst = .run → s.sip.sysPushPull = true ∧ s.sip.forFid = s.part.fid)
    (hcache : s.cache.Organised) (hd : s.deferred = [])
    (hnb : s.env.nbReset = true → s.pins.connect = true) : Inv (deliverLatched s) := by
  rw [deliverLatched_eq]
  refine Inv.of_connected (deliverLatched_wf _ mem) rst ?_ hconn ?_ hwake howe ?_ ?_ ?_ hdiv hfit ?_ hsip
    (deliverLatched_organised _ hcache) hd hnb <;>
    simp_all

/-- A running machine that is not in the run phase is in Working. -/
theorem Inv.rst_run {s : State} (hi : Inv s) (h : s.pm ≠ .working) : s.rst = .run := by
  by_contra h'; exact h (hi.cleared h').1

/-- While the bus operates nothing is owed and the clocks run at full speed. -/
theorem Inv.up {s : State} (hi : Inv s) (hb : s.busUp = true) :
    s.wake = false ∧ s.oweSg = false ∧ s.clockDiv = 1 ∧ (s.running = true → s.pins.fitConn .connected = true) := by
  have hw : s.wake = false := by
    by_contra h
    rcases hi.wakeConn (by simpa using h) with h | h | h <;> simp [State.busUp, h] at hb
  refine ⟨hw, ?_, hi.fullSpeed ?_, fun hr => ?_⟩
  · by_contra h
    have := (hi.owed (by simpa using h)).2.2
    simp_all
  · rintro h; simp [State.busUp, h] at hb
  · have := hi.pins hr
    simp only [State.busUp, Bool.or_eq_true, beq_iff_eq] at hb
    rcases hb with h | h <;> simp_all [Pins.fitConn]

/-- A wake-up event on a bus that is off or coming up, in Halt or Stop Grant: the Connect special cycle is owed; the power
state, what is latched and the level of STPCLK# may have changed with the event. -/
theorem Inv.owing {s : State} (hi : Inv s) (hb : s.busUp = false) (hw : s.pm ≠ .working) {p : Power} {f o : Bool}
    {l : Latched} {b : Bool} {e : Env} {tm : Times} (hp : p = .halt ∨ p = .stopGrant) (hf : f = true → p = .stopGrant)
    (ho : o = true → f = true ∧ b = true)
    (hn : e.nbReset = s.env.nbReset := by first | rfl | simp) :
    Inv (oweConnect { s with
      pm := p, sgFromHalt := f, oweSg := o, latched := l, pins := { s.pins with stpclk := b }, env := e, times := tm }) := by
  have hrun := hi.rst_run hw
  have hc : s.conn = .disconnected ∨ s.conn = .connectPending1 ∨ s.conn = .connectPending2 := by
    cases h : s.conn <;> simp_all [State.busUp]
  have hd : s.deferred = [] := hi.nil_of_conn (by rcases hc with h | h | h <;> simp [h])
  have hne : p ≠ .probe ∧ p ≠ .working := by rcases hp with h | h <;> simp [h]
  refine {
    mem := hi.mem
    resetPin := hi.resetPin
    cleared := fun h => absurd hrun h
    lowPower := fun _ => hp
    working := fun h => absurd h hne.2
    probe := fun h => absurd h hne.1
    invited := by simp [hne.2]
    wakeConn := fun _ => hc
    probeWake := fun h => absurd h hne.1
    fromHalt := ?_
    owed := ?_
    served := fun h => absurd h hne.2
    waking := fun _ _ => rfl
    fullSpeed := hi.fullSpeed
    divided := fun _ h => absurd h (by simp)
    pins := ?_
    stpclk := ?_
    deferring := fun h => absurd hd h
    sip := hi.sip
    organised := hi.organised
    nbReset := fun h => hi.nbReset (hn ▸ h) }
  · rw [restPm_of_ne hne.1]; exact hf
  · intro h; exact ⟨hf (ho h).1, (ho h).1, rfl⟩
  · intro h
    have := hi.pins h
    rcases hc with h | h | h <;> simp_all [Pins.fitConn]
  · rintro _ _ (h | h)
    · simp at h
    · simpa [hd, levelBefore] using (ho h).2

/-- Halt ends, or will end once connected (40_power_states.md R138). -/
theorem Inv.wakeHalt {s : State} (hi : Inv s) (hp : s.pm = .halt) (l : Latched) :
    Inv (wakeUp finishHalt { s with latched := l }) := by
  have hfh : s.sgFromHalt = false := by
    by_contra h; have := hi.fromHalt (by simpa using h); simp [State.restPm, Power.behind, hp] at this
  have howe : s.oweSg = false := by
    by_contra h; have := hi.owed (by simpa using h); simp_all
  by_cases hb : s.busUp = true
  · obtain ⟨hw, -, hd, hfit⟩ := hi.up hb
    rw [wakeUp_up _ { s with latched := l } hb]
    refine Inv.deliverLatched ?_ ?_ ?_ ?_ ?_ ?_ ?_ ?_ ?_ ?_ ?_ ?_ ?_ ?_ <;> simp
    · exact hi.mem
    · simpa using hi.resetPin
    · exact hw
    · exact howe
    · exact hfh
    · exact hd
    · exact hfit
    · exact hi.sip
    · exact hi.organised
    · exact hi.nil_of_ne (by simp [hp])
    · exact hi.nbReset
  · have hb : s.busUp = false := by simpa using hb
    rw [wakeUp_down _ { s with latched := l } hb]
    have := hi.owing (p := .halt) (f := false) (o := false) (l := l) (b := s.pins.stpclk) (e := s.env) (tm := s.times) hb
      (by simp [hp]) (.inl rfl) (by simp) (by simp)
    rw [← hp] at this
    convert this using 3

/-- STPCLK# asserted in Halt (40 R139). -/
theorem Inv.stopGrantFromHalt {s : State} (hi : Inv s) (hp : s.pm = .halt) (hs : s.pins.stpclk = true) :
    Inv (stopGrantFromHalt s) := by
  have hrun := hi.rst_run (by simp [hp])
  unfold Machine.stopGrantFromHalt
  by_cases hb : s.busUp = true
  · obtain ⟨hw, -, hd, hfit⟩ := hi.up hb
    rw [wakeUp_up _ { s with pm := .stopGrant, sgFromHalt := true, oweSg := true } hb]
    refine Inv.of_connected ?_ ?_ ?_ ?_ ?_ ?_ ?_ ?_ ?_ ?_ ?_ ?_ ?_ ?_ ?_ ?_ ?_ <;> simp
    · exact hi.mem
    · exact hi.resetPin
    · exact hrun
    · exact hw
    · exact hd
    · simpa [State.running] using hfit
    · exact fun _ => hs
    · exact hi.sip
    · exact hi.organised
    · exact hi.nil_of_ne (by simp [hp])
    · exact hi.nbReset
  · have hb : s.busUp = false := by simpa using hb
    rw [wakeUp_down _ { s with pm := .stopGrant, sgFromHalt := true, oweSg := true } hb]
    have := hi.owing (p := .stopGrant) (f := true) (o := true) (l := s.latched) (b := s.pins.stpclk) (e := s.env)
      (tm := s.times) hb (by simp [hp]) (.inr rfl) (by simp) (by simp [hs])
    exact this

/-- Leaving Stop Grant in a connected bus (40 R142, R146, R144). -/
theorem Inv.finishStopGrant {s : State} (mem : s.mem.wf = true) (rst : s.pins.reset = true → s.rst = .inReset)
    (hrst : s.rst = .run) (hconn : s.conn = .connected) (hwake : s.wake = false) (howe : s.oweSg = false)
    (hreq : s.discReq = false) (hdiv : s.clockDiv = 1) (hfit : s.running = true → s.pins.fitConn .connected = true)
    (hsip : s.rst = .run → s.sip.sysPushPull = true ∧ s.sip.forFid = s.part.fid)
    (hcache : s.cache.Organised) (hd : s.deferred = [])
    (hnb : s.env.nbReset = true → s.pins.connect = true) : Inv (finishStopGrant s) := by
  unfold Machine.finishStopGrant
  split
  · unfold returnToHalt
    have hup : (reenterHalt s).busUp = true := by simp [State.busUp, hconn]
    split
    · rw [wakeUp_up _ _ hup]
      refine Inv.deliverLatched ?_ ?_ ?_ ?_ ?_ ?_ ?_ ?_ ?_ ?_ ?_ ?_ ?_ ?_ <;> simp_all [State.running]
    · refine Inv.of_connected ?_ ?_ ?_ ?_ ?_ ?_ ?_ ?_ ?_ ?_ ?_ ?_ ?_ ?_ ?_ ?_ ?_ <;> simp_all [State.running]
  · refine Inv.deliverLatched ?_ ?_ ?_ ?_ ?_ ?_ ?_ ?_ ?_ ?_ ?_ ?_ ?_ ?_ <;> simp_all [State.running]

/-- STPCLK# deasserted in Stop Grant (40 R142). -/
theorem Inv.wakeStopGrant {s : State} (hi : Inv s) (hp : s.pm = .stopGrant) (ho : s.oweSg = false) {b : Bool} {e : Env}
    {tm : Times} (hn : e.nbReset = s.env.nbReset := by first | rfl | simp) :
    Inv (wakeUp Machine.finishStopGrant { s with pins := { s.pins with stpclk := b }, env := e, times := tm }) := by
  have hrun := hi.rst_run (by simp [hp])
  by_cases hb : s.busUp = true
  · obtain ⟨hw, -, hd, hfit⟩ := hi.up hb
    rw [wakeUp_up _ { s with pins := { s.pins with stpclk := b }, env := e, times := tm } hb]
    apply Inv.finishStopGrant <;> simp
    · exact hi.mem
    · exact hi.resetPin
    · exact hrun
    · exact hw
    · exact ho
    · exact hd
    · simpa [State.running, Pins.fitConn] using hfit
    · exact hi.sip
    · exact hi.organised
    · exact hi.nil_of_ne (by simp [hp])
    · rw [hn]; exact hi.nbReset
  · have hb : s.busUp = false := by simpa using hb
    rw [wakeUp_down _ { s with pins := { s.pins with stpclk := b }, env := e, times := tm } hb]
    have hf : s.sgFromHalt = true → Power.stopGrant = .stopGrant := fun _ => rfl
    have := hi.owing (p := .stopGrant) (f := s.sgFromHalt) (o := false) (l := s.latched) (b := b) (e := e) (tm := tm) hb
      (by simp [hp]) (.inr rfl) hf (by simp) hn
    rw [← hp, ← ho] at this
    exact this

/-- An event in a state that is no Probe (40 R138, R141). -/
theorem Inv.takeOrLatch {s : State} (hi : Inv s) (k : Kind) (m : Opaque) : Inv (takeOrLatch k m s) := by
  unfold Machine.takeOrLatch
  split
  · exact hi.takeEvent k m
  · exact hi.wakeHalt ‹_› _
  · rename_i hp
    have hi' := hi
    exact { hi with
      served := fun h => by simp [hp] at h
      waking := fun h => by simp [State.restPm, Power.behind, hp] at h }
  · exact hi

/-- While a probe is being serviced an event is remembered (40 R153, 92 D17). -/
theorem Inv.deferEvent {s : State} (hi : Inv s) (hv : s.servicing = true) (k : Kind) (m : Opaque) :
    Inv (defer (.event k m) s) := by
  simp only [State.servicing, Bool.and_eq_true, beq_iff_eq] at hv
  exact { hi with
    fromHalt := hi.fromHalt
    waking := hi.waking
    divided := hi.divided
    stpclk := fun h h1 h2 => by simpa [defer] using hi.stpclk h h1 h2
    deferring := fun _ => ⟨hv.1.1, hv.1.2, hv.2⟩ }

/-- An event that reaches the processor (60_exceptions.md R402). -/
theorem Inv.onEvent {s : State} (hi : Inv s) (k : Kind) (m : Opaque) : Inv (onEvent k m s) := by
  unfold Machine.onEvent
  split
  · split
    · exact hi.deferEvent ‹_› k m
    · exact (hi.leaveProbe (hi.nil_of_servicing (by simp_all))).takeOrLatch k m
  · exact hi

/-! ### Operations of the connect machine -/

/-- Condition 3 (41_connect_protocol.md R185). -/
theorem Inv.dropProcrdy {s : State} (hi : Inv s) (hc : s.conn = .disconnectPending) (hr : s.running = true) :
    Inv (dropProcrdy s) := by
  have hpins := hi.pins hr
  have hp : s.pm = .halt ∨ s.pm = .stopGrant := by
    cases h : s.pm
    · have := hi.working h; simp_all
    · exact .inl rfl
    · exact .inr rfl
    · have := hi.probe h; simp_all
  have hup := hi.up (by simp [State.busUp, hc])
  exact {
    mem := hi.mem
    resetPin := hi.resetPin
    cleared := hi.cleared
    lowPower := fun _ => hp
    working := fun h => by rcases hp with h' | h' <;> simp_all
    probe := fun h => by rcases hp with h' | h' <;> simp_all
    invited := hi.invited
    wakeConn := fun _ => .inl rfl
    probeWake := hi.probeWake
    fromHalt := hi.fromHalt
    owed := hi.owed
    served := hi.served
    waking := hi.waking
    fullSpeed := fun h => absurd rfl h
    divided := fun _ _ => rfl
    pins := fun _ => by simp_all [Pins.fitConn]
    stpclk := hi.stpclk
    deferring := fun h => absurd (hi.nil_of_conn (by simp [hc])) h
    sip := hi.sip
    organised := hi.organised
    nbReset := hi.nbReset }

/-- Condition 4, action C (41 R185), with or without entering Probe (40 R150). -/
theorem Inv.raiseProcrdy {s : State} (hi : Inv s) (hc : s.conn = .disconnected) (b : Bool) (hb : s.pins.connect = true → b = true) :
    Inv (raiseProcrdy { s with pins := { s.pins with connect := b } }) := by
  have hp := hi.lowPower (by simp [State.lowPower, hc])
  exact {
    mem := hi.mem
    resetPin := hi.resetPin
    cleared := hi.cleared
    lowPower := fun h => by simp [State.lowPower] at h
    working := fun h => by rcases hp with h' | h' <;> simp_all
    probe := fun _ => .inl rfl
    invited := hi.invited
    wakeConn := fun _ => .inr (.inl rfl)
    probeWake := hi.probeWake
    fromHalt := hi.fromHalt
    owed := hi.owed
    served := hi.served
    waking := hi.waking
    fullSpeed := fun _ => rfl
    divided := fun h => by simp at h
    pins := fun _ => rfl
    stpclk := hi.stpclk
    deferring := fun h => absurd (hi.nil_of_conn (by simp [hc])) h
    sip := hi.sip
    organised := hi.organised
    nbReset := fun h => hb (hi.nbReset h) }

/-- Entering Probe while the connect runs (40 R150). -/
theorem Inv.enterProbe {s : State} (hi : Inv s) (hc : s.conn = .connectPending1) (hw : s.wake = false) :
    Inv (enterProbe s) := by
  have howe : s.oweSg = false := by
    by_contra h; have := (hi.owed (by simpa using h)).2.2; simp_all
  have key : ∀ r : Resting, s.pm = r.toPower → Inv { s with pm := .probe, probeRet := r } := by
    intro r h
    have hne : s.pm ≠ .probe := by rw [h]; cases r <;> decide
    have hnw : s.pm ≠ .working := by rw [h]; cases r <;> decide
    have hrest : ({ s with pm := .probe, probeRet := r } : State).restPm = s.restPm := by
      rw [restPm_of_ne hne, h]; rfl
    have hinv := hi.invited
    exact {
      mem := hi.mem
      resetPin := hi.resetPin
      cleared := fun h' => absurd (hi.rst_run hnw) h'
      lowPower := fun h => by simp [State.lowPower, hc] at h
      working := fun h => by simp at h
      probe := fun _ => .inl hc
      invited := by simp_all
      wakeConn := hi.wakeConn
      probeWake := fun _ => hw
      fromHalt := by rw [hrest]; exact hi.fromHalt
      owed := fun h => by simp_all
      served := fun h => by simp at h
      waking := by rw [hrest]; exact hi.waking
      fullSpeed := hi.fullSpeed
      divided := fun h => by simp [hc] at h
      pins := hi.pins
      stpclk := by rw [hrest]; exact hi.stpclk
      deferring := fun h => absurd (hi.nil_of_conn (by simp [hc])) h
      sip := hi.sip
      organised := hi.organised
      nbReset := hi.nbReset }
  unfold Machine.enterProbe
  split
  · exact key .halt ‹_›
  · exact key .stopGrant ‹_›
  · exact hi
  · exact hi

/-- Condition 6 (41 R185). -/
theorem Inv.forwardClocks {s : State} (hi : Inv s) (hc : s.conn = .connectPending2) (hr : s.running = true) (tm : Times) :
    Inv (forwardClocks { s with times := tm }) := by
  have hrun : s.rst = .run := by simp [State.running] at hr; exact hr.2
  have hpins := hi.pins hr
  have hd := hi.fullSpeed (by simp [hc])
  have hfit : s.pins.fitConn .connected = true := by simp_all [Pins.fitConn]
  have hdf : s.deferred = [] := hi.nil_of_conn (by simp [hc])
  have hnw : s.pm ≠ .working := fun h => by have := hi.working h; simp_all
  unfold Machine.forwardClocks
  simp only
  split
  · rename_i hw
    have hreq : s.discReq = false := by have := hi.invited; simp_all
    unfold finishPending
    split
    · rename_i hp
      have hp : s.pm = .halt := hp
      have hfh : s.sgFromHalt = false := by
        by_contra h; have := hi.fromHalt (by simpa using h); simp [State.restPm, Power.behind, hp] at this
      have howe : s.oweSg = false := by
        by_contra h; have := hi.owed (by simpa using h); simp_all
      refine Inv.deliverLatched ?_ ?_ ?_ ?_ ?_ ?_ ?_ ?_ ?_ ?_ ?_ ?_ ?_ ?_ <;> simp
      · exact hi.mem
      · exact hi.resetPin
      · exact howe
      · exact hreq
      · exact hfh
      · exact hd
      · exact fun _ => hfit
      · exact hi.sip
      · exact hi.organised
      · exact hdf
      · exact hi.nbReset
    · rename_i hp
      have hp : s.pm = .stopGrant := hp
      split
      · rename_i ho
        have hstp : s.pins.stpclk = true := by
          simpa [hdf, levelBefore] using hi.stpclk hr (by simp [State.restPm, Power.behind, hp]) (.inr ho)
        refine Inv.of_connected ?_ ?_ ?_ ?_ ?_ ?_ ?_ ?_ ?_ ?_ ?_ ?_ ?_ ?_ ?_ ?_ ?_ <;> simp [hp, hstp, hd, hfit, hrun, hi.mem, hdf]
        · have := hi.resetPin; simp_all
        · exact hi.sip hrun
        · exact hi.organised
        · exact hi.nbReset
      · rename_i ho
        apply Inv.finishStopGrant <;> simp [hreq, hd, hfit, hrun, hi.mem, hdf]
        · have := hi.resetPin; simp_all
        · simpa using ho
        · exact hi.sip hrun
        · exact hi.organised
        · exact hi.nbReset
    · rename_i hp; exact absurd hp hnw
    · rename_i hp; have := hi.probeWake hp; simp_all
  · rename_i hw
    have hw : s.wake = false := by simpa using hw
    have howe : s.oweSg = false := by
      by_contra h; have := (hi.owed (by simpa using h)).2.2; simp_all
    exact { hi with
      lowPower := fun h => by simp [State.lowPower] at h
      working := fun _ => rfl
      probe := fun _ => .inr (.inr rfl)
      wakeConn := fun h => by simp_all
      fullSpeed := fun _ => hd
      divided := fun h => by simp at h
      pins := fun _ => hfit
      fromHalt := hi.fromHalt
      waking := hi.waking
      stpclk := hi.stpclk
      deferring := fun h => absurd hdf h }

/-! ### Pins -/

/-- A pin other than RESET# and the protocol pins changes, or STPCLK# in a state it does not hold. -/
theorem Inv.setPins {s : State} (hi : Inv s) {p : Pins} {e : Env} {t : Times} {n : Nat}
    (hreset : p.reset = s.pins.reset)
    (hfit : s.running = true → p.fitConn s.conn = s.pins.fitConn s.conn)
    (hstp : s.running = true → s.pins.stpclk = true → p.stpclk = true ∨ s.restPm ≠ .stopGrant)
    (he : s.env.probeOutstanding = true → e.probeOutstanding = true := by exact fun h => h)
    (hn : (s.env.nbReset = true → s.pins.connect = true) → e.nbReset = true →
      p.connect = true := by exact fun h => h) :
    Inv { s with pins := p, env := e, times := t, free := n } :=
  hi.of_eq hi.mem rfl id rfl rfl rfl rfl rfl rfl rfl rfl rfl (.inl rfl) rfl rfl (fun h => hreset ▸ h) hfit hstp hi.organised
    rfl he hn

theorem Inv.markPin {s : State} (hi : Inv s) (p : EventPin) (b : Bool) (h : p ≠ .stpclk) : Inv (markPin p b s) := by
  cases p <;> first | contradiction | exact hi.setPins rfl (fun _ => rfl) (fun _ h => .inl h)

theorem Inv.markStpclk {s : State} (hi : Inv s) (c : StpclkCause) :
    Inv (Machine.markPin .stpclk true { s with env := { s.env with stpclkCause := c } }) :=
  hi.setPins rfl (fun _ => rfl) (fun _ _ => .inl rfl)

/-! ### When the probe has been serviced -/

/-- While a probe is being serviced an edge of STPCLK# is remembered. -/
theorem Inv.deferStpclk {s : State} (hi : Inv s) (hv : s.servicing = true) {b : Bool} (hb : s.pins.stpclk = !b) {e : Env}
    {tm : Times} (he : e.probeOutstanding = s.env.probeOutstanding)
    (hn : e.nbReset = s.env.nbReset := by first | rfl | simp) :
    Inv (defer (.stpclk b) { s with pins := { s.pins with stpclk := b }, env := e, times := tm }) := by
  simp only [State.servicing, Bool.and_eq_true, beq_iff_eq] at hv
  exact { hi with
    fromHalt := hi.fromHalt
    waking := hi.waking
    divided := hi.divided
    pins := hi.pins
    stpclk := fun h h1 h2 => by simpa [defer, hb] using hi.stpclk h h1 h2
    deferring := fun _ => ⟨hv.1.1, hv.1.2, he.trans hv.2⟩
    nbReset := fun h => hi.nbReset (hn ▸ h) }

/-- An edge of STPCLK# in a state that is no Probe (40 R139, R142). -/
theorem Inv.stpclkEdge {s u : State} (hi : Inv s) (b : Bool) (e : Env) (tm : Times)
    (hu : u = { s with pins := { s.pins with stpclk := b }, env := e, times := tm })
    (he : e.probeOutstanding = s.env.probeOutstanding) (hp : s.pm ≠ .probe)
    (ho : s.pm = .stopGrant → s.oweSg = false ∨ b = true)
    (hn : e.nbReset = s.env.nbReset := by first | rfl | simp) : Inv (stpclkEdge b u) := by
  subst hu
  have hr := restPm_of_ne hp
  have keep : s.pm ≠ .stopGrant ∨ b = true →
      Inv { s with pins := { s.pins with stpclk := b }, env := e, times := tm } := fun h =>
    hi.setPins rfl (fun _ => rfl) (fun _ _ => h.symm.imp id (fun h => hr ▸ h)) (fun h => he.trans h)
      (fun h h' => h (hn ▸ h'))
  by_cases h1 : s.pm = .halt ∧ b = true
  · obtain ⟨h1, rfl⟩ := h1
    rw [stpclkEdge_halt (s := { s with pins := { s.pins with stpclk := true }, env := e, times := tm }) h1]
    exact (keep (.inr rfl)).stopGrantFromHalt h1 rfl
  · by_cases h2 : s.pm = .stopGrant ∧ b = false
    · obtain ⟨h2, rfl⟩ := h2
      rw [stpclkEdge_stopGrant (s := { s with pins := { s.pins with stpclk := false }, env := e, times := tm }) h2]
      exact hi.wakeStopGrant h2 (by simpa using ho h2) hn
    · rw [stpclkEdge_none (s := { s with pins := { s.pins with stpclk := b }, env := e, times := tm }) h1 h2]
      exact keep (by cases b <;> simp_all)

/-- What is served on a connected bus leaves it connected, and is no Probe. -/
theorem serve_connected {s : State} (hc : s.conn = .connected) (hp : s.pm ≠ .probe) (d : Deferred) :
    (serve s d).conn = .connected ∧ (serve s d).pm ≠ .probe := by
  cases d with
  | event k m =>
    simp only [serve, takeOrLatch]
    split <;> simp_all [wakeUp, State.busUp, finishHalt]
  | stpclk b =>
    simp only [serve, stpclkEdge]
    split <;> simp_all [wakeUp, State.busUp, stopGrantFromHalt, finishStopGrant, returnToHalt]
    split <;> simp_all [finishHalt]
    split <;> simp_all

/-- One deferred arrival takes effect. -/
theorem Inv.serve {s : State} (hi : Inv s) (hc : s.conn = .connected) (hp : s.pm ≠ .probe) (d : Deferred) :
    Inv (serve s d) := by
  cases d with
  | event k m => exact hi.takeOrLatch k m
  | stpclk b => exact hi.stpclkEdge b s.env s.times rfl rfl hp fun _ => .inl (hi.up (by simp [State.busUp, hc])).2.1

/-- So do all of them. -/
theorem Inv.serveAll {ds : List Deferred} {s : State} (hi : Inv s) (h : ds ≠ [] → s.conn = .connected ∧ s.pm ≠ .probe) :
    Inv (ds.foldl Machine.serve s) := by
  induction ds generalizing s with
  | nil => exact hi
  | cons d ds ih =>
    obtain ⟨hc, hp⟩ := h (by simp)
    exact ih (hi.serve hc hp d) fun _ => serve_connected hc hp d

/-- The machine when the probe has been serviced, before what was deferred takes effect. -/
theorem Inv.serviced {s : State} (hi : Inv s) :
    Inv { s with
      deferred := [], pins := { s.pins with stpclk := levelBefore s.deferred s.pins.stpclk }
      env := { s.env with probeOutstanding := false } } :=
  { hi with
    fromHalt := hi.fromHalt
    waking := hi.waking
    divided := hi.divided
    pins := hi.pins
    deferring := fun h => absurd rfl h
    nbReset := hi.nbReset }

/-! ### Input handlers -/

theorem Inv.onStpclkAssert {s t : State} (hi : Inv s) (c : StpclkCause) (h : onStpclkAssert c s = .next t) : Inv t := by
  unfold Machine.onStpclkAssert at h
  simp only [require_next, Host.Outcome.next.injEq] at h
  obtain ⟨hs, rfl⟩ := h
  split
  · split
    · exact hi.deferStpclk ‹_› (by simpa using hs) rfl
    · have hd := hi.nil_of_servicing (by simp_all)
      have hm : Machine.leaveProbe (Machine.markPin .stpclk true { s with env := { s.env with stpclkCause := c } })
          = { Machine.leaveProbe s with
              pins := { (Machine.leaveProbe s).pins with stpclk := true }, env := { s.env with stpclkCause := c }
              times := { s.times with stpclkAt := some s.times.now } } :=
        (leaveProbe_with s _ _ _).trans (by simp)
      exact (hi.leaveProbe hd).stpclkEdge true _ _ hm (by simp) (leaveProbe_ne s) (fun _ => .inr rfl)
  · exact hi.markStpclk c

theorem Inv.comeTo {s t : State} (hi : Inv s) (h : comeTo s = .next t) : Inv t := by
  obtain ⟨-, rfl⟩ := comeTo_next.1 h
  exact hi

theorem Inv.onStpclkDeassert {s t : State} (hi : Inv s) (h : onStpclkDeassert s = .next t) : Inv t := by
  unfold Machine.onStpclkDeassert at h
  rw [require_next] at h
  obtain ⟨hs, h⟩ := h
  split at h
  · split at h
    · injection h with h; subst h
      exact hi.deferStpclk ‹_› (by simpa using hs) rfl
    · have hd := hi.nil_of_servicing (by simp_all)
      have hm : Machine.leaveProbe (Machine.markPin .stpclk false s)
          = { Machine.leaveProbe s with
              pins := { (Machine.leaveProbe s).pins with stpclk := false }, env := s.env, times := s.times } :=
        (leaveProbe_with s _ _ _).trans (by simp)
      have hi2 := hi.leaveProbe hd
      have hpm : (Machine.leaveProbe (Machine.markPin .stpclk false s)).pm = (Machine.leaveProbe s).pm := by rw [hm]
      generalize Machine.leaveProbe (Machine.markPin .stpclk false s) = u at hm hpm h
      have key : u.pm ≠ .stopGrant → Inv u := by
        intro hne
        rw [hpm] at hne
        rw [hm]
        exact hi2.setPins rfl (fun _ => rfl) (fun _ _ => .inr (by rwa [restPm_leaveProbe, ← leaveProbe_restPm])) (by simp)
          (by simp)
      simp only at h
      split at h <;> rename_i hp
      · rw [require_next] at h
        obtain ⟨ho, h⟩ := h
        refine (hi2.stpclkEdge false _ _ hm (by simp) (leaveProbe_ne s) (fun _ => .inl ?_)).comeTo h
        simpa [hm] using ho
      all_goals
        injection h with h; subst h
        exact key (by rw [hp]; decide)
  · rename_i hr
    injection h with h; subst h
    exact hi.setPins rfl (fun _ => rfl) (fun h => absurd h hr)

theorem Inv.resetEffect {s : State} (hi : Inv s) : Inv (resetEffect s) := by
  refine Inv.of_connected ?_ ?_ ?_ ?_ ?_ ?_ ?_ ?_ ?_ ?_ ?_ ?_ ?_ ?_ ?_ ?_ ?_ <;> simp [Machine.resetEffect, State.running]
  · exact hi.mem
  · exact organised_cachesAfterReset _
  · exact hi.nbReset

theorem Inv.onResetDeassert {s t : State} (hi : Inv s) (h : onResetDeassert s = .next t) : Inv t := by
  simp only [Machine.onResetDeassert, require_next] at h
  obtain ⟨hp, -, -, h⟩ := h
  injection h with h; subst h
  have hr := hi.resetPin hp
  exact { hi with
    resetPin := fun h => by simp at h
    cleared := fun _ => hi.cleared (by simp [hr])
    pins := fun h => by simp [State.running] at h
    stpclk := fun h => by simp [State.running] at h
    fromHalt := hi.fromHalt
    waking := hi.waking
    divided := hi.divided
    sip := fun h => by simp at h }

theorem Inv.onResetAssert {s t : State} (hi : Inv s) (h : onResetAssert s = .next t) : Inv t := by
  simp only [Machine.onResetAssert, require_next] at h
  obtain ⟨-, h⟩ := h
  injection h with h; subst h
  exact hi.resetEffect

theorem Inv.onA20m {s t : State} (hi : Inv s) (b : Bool) (h : onA20m b s = .next t) : Inv t := by
  injection h with h; subst h; exact hi.markPin _ _ (by decide)

theorem Inv.onIgnne {s t : State} (hi : Inv s) (b : Bool) (h : onIgnne b s = .next t) : Inv t := by
  injection h with h; subst h; exact hi.markPin _ _ (by decide)

theorem Inv.onRelease {s t : State} (hi : Inv s) (p : EventPin) (h : onRelease p s = .next t) : Inv t := by
  cases p
  case stpclk => exact hi.onStpclkDeassert h
  case reset => exact hi.onResetDeassert h
  case a20m => exact hi.onA20m _ h
  case ignne => exact hi.onIgnne _ h
  case flush => injection h with h; subst h; exact hi
  all_goals
    injection h with h; subst h
    exact hi.markPin _ _ (by decide)

theorem Inv.onAssertPin {s t : State} (hi : Inv s) (p : EventPin) (h : onAssertPin p s = .next t) : Inv t := by
  cases p
  case stpclk => exact hi.onStpclkAssert _ h
  case reset => exact hi.onResetAssert h
  case a20m => exact hi.onA20m _ h
  case ignne => exact hi.onIgnne _ h
  case flush => simp [Machine.onAssertPin, onTieOff] at h
  all_goals exact ((hi.markPin _ _ (by decide)).onEvent _ _).comeTo h

theorem Inv.passTime {s : State} (hi : Inv s) (d : Nat) : Inv (passTime d s) := hi.update hi.mem hi.organised

theorem Inv.letPass {s t : State} (hi : Inv s) (d : Nat) (h : letPass d s = .next t) : Inv t := by
  obtain ⟨-, rfl⟩ := letPass_next.1 h
  exact hi.passTime d

theorem Inv.noteAssert {s : State} (hi : Inv s) (p : EventPin) (n : Nat) : Inv (noteAssert p n s) := by
  cases p <;> first | exact hi | exact hi.update hi.mem hi.organised

theorem Inv.seenPulse {s t : State} (hi : Inv s) (p : EventPin) (d : Nat) (h : seenPulse p d s = .next t) : Inv t := by
  obtain ⟨u, hu, h⟩ := andThen_next.1 h
  obtain ⟨v, hv, h⟩ := andThen_next.1 h
  obtain ⟨w, hw, h⟩ := andThen_next.1 h
  exact ((((hi.letPass _ hu).onAssertPin p hv).noteAssert p _).letPass _ hw).onRelease p h

theorem Inv.onPulse {s t : State} (hi : Inv s) (p : EventPin) (d : Nat) (h : onPulse p d s = .next t) : Inv t := by
  have hf : Inv { s with free := s.free + 1 } := hi.update hi.mem hi.organised
  simp only [Machine.onPulse, require_next] at h
  obtain ⟨-, h⟩ := h
  split at h
  · exact hi.seenPulse p d h
  · split at h
    · exact hf.seenPulse p d h
    · exact (hf.noteAssert p _).letPass d h

/-- Condition 1 (41 R185). -/
theorem Inv.beginDisconnect {s : State} (hi : Inv s) (hc : s.conn = .connected) (hreq : s.discReq = true)
    (hp : s.pm ≠ .probe) (hlow : s.pins.connect = false) : Inv { s with conn := .disconnectPending } := by
  have hnw : s.pm ≠ .working := by intro h; have := hi.invited; simp_all
  have hup := hi.up (by simp [State.busUp, hc])
  exact { hi with
    lowPower := fun h => by simp [State.lowPower] at h
    working := fun h => absurd h hnw
    probe := fun h => absurd h hp
    wakeConn := fun h => by have := hup.1; simp_all
    fullSpeed := fun _ => hup.2.2.1
    divided := fun h => by simp at h
    pins := fun h => by have := hup.2.2.2 h; simp_all [Pins.fitConn]
    fromHalt := hi.fromHalt
    waking := hi.waking
    stpclk := hi.stpclk
    deferring := fun h => absurd (hi.nil_of_ne hp) h }

theorem Inv.onConnectDeassert {s t : State} (hi : Inv s) (h : onConnectDeassert s = .next t) : Inv t := by
  unfold Machine.onConnectDeassert at h
  simp only [require_next] at h
  obtain ⟨-, hnb, h⟩ := h
  have hlow : s.env.nbReset = true → false = true := by simpa using hnb
  split at h
  · split at h
    · rename_i hc
      simp only [require_next] at h
      obtain ⟨hreq, -, hbusy, -, h⟩ := h
      injection h with h; subst h
      have h1 : Inv { s with pins := { s.pins with connect := false } } :=
        hi.setPins rfl (fun _ => by rw [hc]; rfl) (fun _ h => .inl h) (hn := fun _ => hlow)
      have hd : s.deferred = [] := hi.nil_of_servicing (by simp_all [State.servicing])
      exact (h1.leaveProbe hd).beginDisconnect (by simpa using hc) (by simpa using hreq) (leaveProbe_ne _) (by simp)
    all_goals simp at h
  · rename_i hr
    injection h with h; subst h
    exact hi.setPins rfl (fun h => absurd h hr) (fun _ h => .inl h) (hn := fun _ => hlow)

theorem Inv.onConnectAssert {s t : State} (hi : Inv s) (h : onConnectAssert s = .next t) : Inv t := by
  unfold Machine.onConnectAssert at h
  rw [require_next] at h
  obtain ⟨-, h⟩ := h
  split at h
  · rename_i hr
    have keep : (s.conn = .connected ∨ s.conn = .connectPending1 ∨ s.conn = .connectPending2) →
        Inv { s with pins := { s.pins with connect := true } } := by
      intro hc
      refine hi.setPins rfl (fun hr => ?_) (fun _ h => .inl h) (hn := fun _ _ => rfl)
      have := hi.pins hr
      rcases hc with hc | hc | hc <;> simp_all [Pins.fitConn]
    split at h
    · rename_i hc
      have h1 := hi.raiseProcrdy hc true fun _ => rfl
      split at h
      · injection h with h; subst h; exact h1
      · rename_i hw
        rw [require_next] at h
        obtain ⟨-, h⟩ := h
        injection h with h; subst h
        exact h1.enterProbe rfl (by simpa using hw)
    · rename_i hc; injection h with h; subst h; exact keep (.inl hc)
    · rename_i hc; injection h with h; subst h; exact keep (.inr (.inl hc))
    · rename_i hc; injection h with h; subst h; exact keep (.inr (.inr hc))
    · simp at h
  · rename_i hr
    injection h with h; subst h
    have h1 : Inv { s with pins := { s.pins with connect := true } } :=
      hi.setPins rfl (fun h => absurd h hr) (fun _ h => .inl h) (hn := fun _ _ => rfl)
    unfold sampleConnect
    split
    · exact h1.update h1.mem h1.organised
    · exact h1

theorem Inv.onClkfwdrstAssert {s t : State} (hi : Inv s) (h : onClkfwdrstAssert s = .next t) : Inv t := by
  unfold Machine.onClkfwdrstAssert at h
  rw [require_next] at h
  obtain ⟨-, h⟩ := h
  split at h
  · rename_i hr
    rw [require_next] at h
    obtain ⟨hc, h⟩ := h
    injection h with h; subst h
    refine hi.setPins rfl (fun _ => ?_) (fun _ h => .inl h)
    simp only [Bool.or_eq_true, beq_iff_eq] at hc
    rcases hc with hc | hc <;> rw [hc] <;> rfl
  · rename_i hr
    injection h with h; subst h
    exact hi.setPins rfl (fun h => absurd h hr) (fun _ h => .inl h)

theorem Inv.onClkfwdrstDeassert {s t : State} (hi : Inv s) (h : onClkfwdrstDeassert s = .next t) : Inv t := by
  unfold Machine.onClkfwdrstDeassert at h
  rw [require_next] at h
  obtain ⟨-, h⟩ := h
  split at h
  · rename_i hr
    simp only [require_next] at h
    obtain ⟨hc, hcon, h⟩ := h
    injection h with h; subst h
    have hc : s.conn = .connectPending1 := by simpa using hc
    have hfit := hi.pins hr
    exact { hi with
      lowPower := fun h => by simp [State.lowPower] at h
      working := fun h => by have := hi.working h; simp_all
      probe := fun _ => .inr (.inl rfl)
      wakeConn := fun _ => .inr (.inr rfl)
      fullSpeed := fun _ => hi.fullSpeed (by simp [hc])
      divided := fun h => by simp at h
      pins := fun _ => by simp_all [Pins.fitConn]
      fromHalt := hi.fromHalt
      waking := hi.waking
      stpclk := hi.stpclk
      deferring := fun h => absurd (hi.nil_of_conn (by simp [hc])) h }
  · rename_i hr
    injection h with h; subst h
    exact hi.setPins rfl (fun h => absurd h hr) (fun _ h => .inl h)

theorem Inv.onFwdclkStart {s t : State} (hi : Inv s) (h : onFwdclkStart s = .next t) : Inv t := by
  unfold Machine.onFwdclkStart at h
  rw [require_next] at h
  obtain ⟨hc, h⟩ := h
  simp only [Bool.and_eq_true, beq_iff_eq] at hc
  split at h
  · simp at h
  · simp only [require_next] at h
    exact (hi.forwardClocks hc.2 hc.1 _).comeTo h.2

theorem Inv.onProbe {s t : State} (hi : Inv s) (p : Opaque) (h : onProbe p s = .next t) : Inv t := by
  simp only [Machine.onProbe, require_next] at h
  obtain ⟨-, -, h⟩ := h
  injection h with h; subst h
  exact hi.update hi.mem (organised_probeEffect _ _ _) fun _ => rfl

theorem Inv.onProbeDone {s t : State} (hi : Inv s) (h : onProbeDone s = .next t) : Inv t := by
  unfold Machine.onProbeDone at h
  simp only at h
  split at h
  · obtain ⟨-, rfl⟩ := comeTo_next.1 h
    have h1 := hi.serviced.leaveProbe rfl
    have hd : ∀ u : State, serveDeferred (Machine.leaveProbe u) = u.deferred.foldl Machine.serve (Machine.leaveProbe
        { u with deferred := [], pins := { u.pins with stpclk := levelBefore u.deferred u.pins.stpclk } }) := by
      intro u
      cases h : u.pm <;> simp [serveDeferred, Machine.leaveProbe, h]
    rw [hd]
    refine h1.serveAll fun hne => ?_
    exact ⟨by simpa using (hi.deferring hne).2.1, leaveProbe_ne _⟩
  · rename_i hr
    injection h with h; subst h
    exact { hi with
      fromHalt := hi.fromHalt
      waking := hi.waking
      divided := hi.divided
      stpclk := fun h => absurd h hr
      deferring := fun h => absurd rfl h }

theorem Inv.onNbReset {s t : State} (hi : Inv s) (b : Bool) (h : onNbReset b s = .next t) : Inv t := by
  unfold Machine.onNbReset at h
  split at h
  · rw [require_next] at h
    obtain ⟨hr, h⟩ := h
    injection h with h; subst h
    have hr : s.rst = .inReset := by simpa using hr
    exact hi.setPins rfl (fun h => by simp [State.running, hr] at h) (fun _ h => .inl h) (hn := fun _ _ => rfl)
  · injection h with h; subst h; exact hi.update hi.mem hi.organised (hn := fun h => by simp at h)

theorem Inv.onSipDone {s t : State} (hi : Inv s) (cfg : SipConfig) (h : onSipDone cfg s = .next t) : Inv t := by
  simp only [Machine.onSipDone, require_next] at h
  obtain ⟨hp, hpp, hfid, h⟩ := h
  obtain ⟨-, rfl⟩ := comeTo_next.1 h
  simp only [Bool.and_eq_true, beq_iff_eq] at hp
  obtain ⟨hpm, hfh, howe⟩ := hi.cleared (by simp [hp.2])
  have hconn := hi.working hpm
  have hup := hi.up (by simp [State.busUp, hconn])
  have hinv := hi.invited
  have hlat := hi.served hpm
  have hrp := hi.resetPin
  have hdf := hi.nil_of_ne (by simp [hpm])
  refine Inv.of_connected ?_ ?_ ?_ ?_ ?_ ?_ ?_ ?_ ?_ ?_ ?_ ?_ ?_ ?_ ?_ ?_ ?_ <;> simp_all [Pins.fitConn]
  · exact hi.mem
  · exact hi.organised

theorem Inv.onPwrokAssert {s t : State} (hi : Inv s) (h : onPwrokAssert s = .next t) : Inv t := by
  simp only [Machine.onPwrokAssert, require_next] at h
  obtain ⟨-, hr, -, -, h⟩ := h
  injection h with h; subst h
  have hr : s.rst = .inReset := by simp [State.resetBeforePwrok] at hr; exact hr.1.2
  exact { hi with
    pins := fun h => by simp [State.running, hr] at h
    stpclk := fun h => by simp [State.running, hr] at h
    resetPin := hi.resetPin
    fromHalt := hi.fromHalt
    waking := hi.waking
    divided := hi.divided }

/-- VCC_CORE is applied: to an unpowered machine, at a level above 0, and the ring oscillator clocks it. -/
theorem onVccCoreOn_next {s t : State} {mv : Int} : onVccCoreOn mv s = .next t ↔
    (s.supply = .off ∧ 0 < mv ∧ s.pins.pwrok = false ∧ s.pins.picclk = true ∧ Electrical.absVccCore.admits mv = true ∧
      s.env.dieC ≤ Thermal.dieMax) ∧ { s with supply := .ringOsc, env := { s.env with vccCoreMv := mv } } = t := by
  simp [onVccCoreOn, require_next, Electrical.applied, Thermal.inOperation, and_assoc]

/-- VCC_CORE is removed: the machine is unpowered. -/
theorem removeVccCore_next {s t : State} {mv : Int} : removeVccCore mv s = .next t ↔
    Electrical.storage.admits s.env.dieC = true ∧
      { s with
        supply := .off, env := { s.env with vccCoreMv := mv }
        times := { s.times with pwrokAt := none, v33At := none, vccaAt := none } } = t := by
  simp [removeVccCore, require_next]

/-- VCC_CORE comes to a level: applied, removed, or another level of what is there. -/
theorem setVccCore_next {s t : State} {mv : Int} (h : setVccCore mv s = .next t) :
    (s.supply = .off ∧ 0 < mv ∧ onVccCoreOn mv s = .next t) ∨ (s.supply ≠ .off ∧ mv ≤ 0 ∧ removeVccCore mv s = .next t) ∨
      (s.supply = .off ↔ mv ≤ 0) ∧ { s with env := { s.env with vccCoreMv := mv } } = t := by
  unfold setVccCore at h
  split at h <;> rename_i h1 h2 <;> simp [Electrical.applied] at h1 h2 <;> simp_all

theorem Inv.onVccCoreOn {s t : State} (hi : Inv s) (mv : Int) (h : onVccCoreOn mv s = .next t) : Inv t := by
  obtain ⟨-, rfl⟩ := onVccCoreOn_next.1 h
  exact hi.of_eq hi.mem rfl (fun h => by simp [State.running] at h) rfl rfl rfl rfl rfl rfl rfl rfl rfl (.inl rfl) rfl rfl id
    (fun _ => rfl) (fun _ h => .inl h) hi.organised

theorem Inv.removeVccCore {s t : State} (hi : Inv s) (mv : Int) (h : removeVccCore mv s = .next t) : Inv t := by
  obtain ⟨-, rfl⟩ := removeVccCore_next.1 h
  exact hi.of_eq hi.mem rfl (fun h => by simp [State.running] at h) rfl rfl rfl rfl rfl rfl rfl rfl rfl (.inl rfl) rfl rfl id
    (fun _ => rfl) (fun _ h => .inl h) hi.organised

theorem Inv.setVccCore {s t : State} (hi : Inv s) (mv : Int) (h : setVccCore mv s = .next t) : Inv t := by
  rcases setVccCore_next h with ⟨-, -, h⟩ | ⟨-, -, h⟩ | ⟨-, rfl⟩
  · exact hi.onVccCoreOn mv h
  · exact hi.removeVccCore mv h
  · exact hi.update hi.mem hi.organised

theorem Inv.setRail {s t : State} (hi : Inv s) (r : Rail) (mv : Int) (h : setRail r mv s = .next t) : Inv t := by
  cases r
  · exact hi.setVccCore mv h
  all_goals injection h with h; subst h; first | exact hi | (split <;> exact hi.update hi.mem hi.organised)

theorem Inv.onRail {s t : State} (hi : Inv s) (r : Rail) (mv : Int) (d : Nat) (h : onRail r mv d s = .next t) : Inv t := by
  simp only [Machine.onRail, require_next, andThen_next] at h
  obtain ⟨-, u, hu, h⟩ := h
  exact (hi.setRail r mv hu).letPass d h

theorem Inv.onSysclkPeriod {s t : State} (hi : Inv s) (ps : Nat) (h : onSysclkPeriod ps s = .next t) : Inv t := by
  simp only [Machine.onSysclkPeriod, require_next] at h
  obtain ⟨-, h⟩ := h
  split at h
  · obtain ⟨-, h⟩ := require_next.1 h
    injection h with h; subst h; exact hi.update hi.mem hi.organised
  · injection h with h; subst h; exact hi.update hi.mem hi.organised

theorem Inv.onSpeculate {s t : State} (hi : Inv s) (c : Caches) (h : onSpeculate c s = .next t) : Inv t := by
  injection h with h; subst h
  split
  · exact hi.update hi.mem (Caches.organised_fit _)
  · exact hi

/-- Another bus master's access: the three conditions, then its effect (20_memory.md R93). -/
theorem busMaster_next {k : State → State} {s t : State} : busMaster k s = .next t ↔
    (s.running = true → s.conn = .connected ∧ s.inS1 = false ∧ (s.pm = .working ∨ s.env.probeDue = false)) ∧ k s = t := by
  simp only [busMaster, require_next, Host.Outcome.next.injEq]
  cases s.running <;> simp [and_assoc, Decidable.or_iff_not_imp_left]

theorem Inv.onBusWrite {s t : State} (hi : Inv s) (a : Addr) (b : Byte) (h : onBusWrite a b s = .next t) : Inv t := by
  obtain ⟨-, rfl⟩ := busMaster_next.1 h
  exact hi.update (Memory.wf_write _ _ _ hi.mem) hi.organised

theorem Inv.onBusRead {s t : State} (hi : Inv s) (a : Addr) (h : onBusRead a s = .next t) : Inv t := by
  obtain ⟨-, rfl⟩ := busMaster_next.1 h
  exact hi

/-! ### Instructions and the processor's own step -/

theorem Inv.applyEffect {s : State} (hi : Inv s) (e : X86Effect) : Inv (applyEffect e s) :=
  hi.update (wf_storeAll _ _ _ hi.mem) ((Caches.organised_fit _).under _ _)

theorem Inv.enterHalt {s : State} (hi : Inv s) (hp : s.pm = .working) (hr : s.running = true) : Inv (enterHalt s) := by
  have hc := hi.working hp
  have hup := hi.up (by simp [State.busUp, hc])
  have hinv := hi.invited
  have hlat := hi.served hp
  have hrp := hi.resetPin
  have hsip := hi.sip
  have hm := hi.mem
  have hdf := hi.nil_of_ne (by simp [hp])
  have hrun : s.rst = .run := by simp [State.running] at hr; exact hr.2
  have hfh : s.sgFromHalt = false := by
    by_contra h; have := hi.fromHalt (by simpa using h); simp [State.restPm, Power.behind, hp] at this
  refine Inv.of_connected ?_ ?_ ?_ ?_ ?_ ?_ ?_ ?_ ?_ ?_ ?_ ?_ ?_ ?_ ?_ ?_ ?_ <;> simp_all [State.running]
  · exact hi.organised
  · exact hi.nbReset

theorem Inv.enterStopGrant {s : State} (hi : Inv s) (hp : s.pm = .working) (hr : s.running = true)
    (hs : s.pins.stpclk = true) : Inv (enterStopGrant s) := by
  have hc := hi.working hp
  have hup := hi.up (by simp [State.busUp, hc])
  have hinv := hi.invited
  have hrp := hi.resetPin
  have hsip := hi.sip
  have hm := hi.mem
  have hdf := hi.nil_of_ne (by simp [hp])
  have hrun : s.rst = .run := by simp [State.running] at hr; exact hr.2
  refine Inv.of_connected ?_ ?_ ?_ ?_ ?_ ?_ ?_ ?_ ?_ ?_ ?_ ?_ ?_ ?_ ?_ ?_ ?_ <;> simp_all [State.running]
  · exact hi.organised
  · exact hi.nbReset

/-- The four instructions, in Working. -/
theorem Inv.exec {s t : State} (hi : Inv s) (hr : s.running = true) (hp : s.pm = .working) (i : Instr)
    (h : exec i s = .next t) : Inv t := by
  cases i
  · simp only [Machine.exec, execHlt, require_next] at h
    obtain ⟨-, h⟩ := h
    injection h with h; subst h
    split
    · exact Inv.enterHalt (s := advance .hlt s) (hi.update hi.mem hi.organised) hp hr
    · exact hi.applyEffect _
  · injection h with h; subst h; exact hi.update hi.mem hi.organised
  · simp only [Machine.exec, execRdmsr] at h
    split at h <;> injection h with h <;> subst h
    · exact hi.update hi.mem hi.organised
    · exact hi.applyEffect _
  · simp only [Machine.exec, execWrmsr] at h
    split at h
    · obtain ⟨-, h⟩ := require_next.1 h
      injection h with h; subst h
      exact hi.of_eq hi.mem rfl id rfl rfl rfl rfl rfl rfl rfl rfl rfl (.inr (by simp [hi.working hp])) rfl rfl id
        (fun _ => rfl) (fun _ h => .inl h) hi.organised
    · injection h with h; subst h
      exact hi.applyEffect _

/-- A fetch ends in `X86_ISA`'s fault or goes on with a byte, at most one draw later. -/
theorem fetchThen_next {k : Nat} {go : Byte → State → Result} {s t : State} (h : fetchThen k go s = .next t) :
    t = applyEffect (Config.x86FetchFault s.x86 (busView s)) s ∨ ∃ b n, go b { s with free := n } = .next t := by
  unfold fetchThen at h
  split at h
  · injection h with h; exact .inl h.symm
  · split at h
    · exact .inr ⟨_, s.free, h⟩
    · exact .inr ⟨_, _, h⟩

theorem Inv.fetchThen {s t : State} {k : Nat} {go : Byte → State → Result} (hi : Inv s)
    (hgo : ∀ b n, go b { s with free := n } = .next t → Inv t) (h : fetchThen k go s = .next t) : Inv t := by
  rcases fetchThen_next h with rfl | ⟨b, n, h⟩
  · exact hi.applyEffect _
  · exact hgo b n h

theorem Inv.runForeign {s t : State} (hi : Inv s) (h : runForeign s = .next t) : Inv t := by
  unfold Machine.runForeign at h
  split at h
  · injection h with h; subst h; exact hi.applyEffect _
  · simp at h

theorem Inv.runDecoded {s t : State} (hi : Inv s) (hr : s.running = true) (hp : s.pm = .working) (d : Decoded)
    (h : runDecoded d s = .next t) : Inv t := by
  cases d
  · exact hi.exec hr hp _ h
  all_goals exact hi.runForeign h

theorem Inv.runInstruction {s t : State} (hi : Inv s) (hr : s.running = true) (hp : s.pm = .working)
    (h : runInstruction s = .next t) : Inv t := by
  refine hi.fetchThen (fun b n h => ?_) h
  have h1 : Inv { s with free := n } := hi.update hi.mem hi.organised
  split at h
  · refine h1.fetchThen (fun c m h => ?_) h
    have h2 : Inv { s with free := m } := hi.update hi.mem hi.organised
    exact h2.runDecoded hr hp _ h
  · exact h1.runDecoded hr hp _ h

theorem Inv.atBoundary {s t : State} (hi : Inv s) (hr : s.running = true) (hp : s.pm = .working)
    (h : atBoundary s = .next t) : Inv t := by
  unfold Machine.atBoundary at h
  split at h
  · injection h with h; subst h; exact hi.deliver .intr 0
  · exact hi.runInstruction hr hp h

theorem Inv.ownWork {s t : State} (hi : Inv s) (h : ownWork s = .next t) : Inv t := by
  unfold Machine.ownWork at h
  split at h
  · rename_i hr
    split at h
    · rename_i hc; injection h with h; subst h; exact hi.dropProcrdy hc hr
    · rename_i hc
      injection h with h; subst h
      split
      · exact hi.raiseProcrdy hc s.pins.connect id
      · exact hi
    · split at h
      · rename_i hp; exact hi.atBoundary hr (by simpa using hp) h
      · injection h with h; subst h; exact hi
    all_goals injection h with h; subst h; exact hi
  · injection h with h; subst h; exact hi

theorem Inv.recogniseStpclk {s : State} (hi : Inv s) (h : s.stpclkPending = true) : Inv (recogniseStpclk s) := by
  simp only [State.stpclkPending, Bool.and_eq_true] at h
  obtain ⟨⟨hr, hs⟩, -⟩ := h
  unfold Machine.recogniseStpclk
  split
  · exact hi.enterStopGrant ‹_› hr hs
  · exact hi.stopGrantFromHalt ‹_› hs
  · exact hi
  · exact hi

theorem Inv.ownStep {s t : State} (hi : Inv s) (b : Bool) (h : ownStep b s = .next t) : Inv t := by
  unfold Machine.ownStep at h
  split at h
  · rename_i hb
    injection h with h; subst h
    exact hi.recogniseStpclk (by simp at hb; exact hb.2)
  · exact hi.ownWork h

end Sys2Proof.Machine
end

