-- ==== Sys2Proof/Laws/PerInstr.lean ====
section
/-! SUPPORT. Laws/PerInstr.lean: the family of statements made once for each instruction. -/

namespace Sys2Proof.Laws

/-- What 30_encoding.md R113 says of one row of the encoding table, as syntax: the row is well formed, the encoder writes the
row's bytes, they are as many as the format says, `match` is those bytes as a little-endian integer under a full mask,
and no two rows share them. -/
def EncodingRow.Statement (i : Instr) : Prop :=
  i.wf = true ∧ encode i = i.row.bytes ∧ i.length = i.row.format.length ∧ leNat (encode i) = i.row.pat ∧
  i.row.pat &&& i.row.mask = i.row.pat ∧ ∀ j : Instr, encode j = encode i → j = i

/-- HLT. -/
theorem EncodingRow.hlt : EncodingRow.Statement .hlt :=
  ⟨by decide, by decide, by decide, by decide, by decide, fun j => by cases j <;> decide⟩

/-- CPUID. -/
theorem EncodingRow.cpuid : EncodingRow.Statement .cpuid :=
  ⟨by decide, by decide, by decide, by decide, by decide, fun j => by cases j <;> decide⟩

/-- RDMSR. -/
theorem EncodingRow.rdmsr : EncodingRow.Statement .rdmsr :=
  ⟨by decide, by decide, by decide, by decide, by decide, fun j => by cases j <;> decide⟩

/-- WRMSR. -/
theorem EncodingRow.wrmsr : EncodingRow.Statement .wrmsr :=
  ⟨by decide, by decide, by decide, by decide, by decide, fun j => by cases j <;> decide⟩

end Sys2Proof.Laws
end

