-- ==== Sys2Proof/Laws/Step.lean ====
section
/-! SUPPORT. Laws/Step.lean: what one step can be: the head of the schedule or the processor's own work; the fetch; an event
by the power state it meets; Probe; several steps in a row; the two time conditions. -/

namespace Sys2Proof.Machine

/-! ### The schedule -/

/-- With an input left, a step is that input. -/
theorem step_cons {s : State} {i : Input} {is : List Input} (h : s.inputs = i :: is) :
    step s = onInput i { s with inputs := is } := by
  simp [step, h]

/-- With no input left, a step is the processor's own. -/
theorem step_nil {s : State} (h : s.inputs = []) : step s = ownStepFree s := by
  simp [step, h]

/-- On a bus that is not connected, the processor's own step does its own work, whichever way the schedule asks for it. -/
theorem step_ownStepNext {s : State} {is : List Input} (h : s.ownStepNext is) (hc : s.conn ≠ .connected) :
    step s = ownWork { s with inputs := is } := by
  have hn : s.pm ≠ .halt ∨ s.pins.stpclk = false → s.stpclkPending = false := fun h => by
    rcases h with h | h <;> simp [State.stpclkPending, h, hc]
  rcases h with h | ⟨hq, h | ⟨h, rfl⟩⟩
  · rw [step_cons h]; rfl
  · rw [step_cons h]
    have : State.stpclkPending { s with inputs := is } = false := hn hq
    simp [onInput, ownStep, this]
  · rw [step_nil h, ownStepFree, hn hq, ← h]; rfl

/-- One step, then the others. -/
theorem runSteps_next {n : Nat} {s t : State} (h : step s = .next t) : runSteps (n + 1) s = runSteps n t := by
  simp [runSteps, h, andThen]

/-- Some steps, then the others. -/
theorem runSteps_add {a b : Nat} {s t : State} (h : runSteps a s = .next t) : runSteps (a + b) s = runSteps b t := by
  induction a generalizing s with
  | zero => simp [runSteps] at h; subst h; simp
  | succ a ih =>
    simp only [runSteps, andThen_next] at h
    obtain ⟨u, hu, h⟩ := h
    rw [Nat.add_right_comm, runSteps_next hu, ih h]

/-! ### The fetch -/

/-- A byte that is held or listed is fetched, and nothing changes. -/
theorem fetchThen_listed {k : Nat} {go : Byte → State → Result} {s : State} {b : Byte}
    (h : (fetchAddr s k).bind s.codeByte = some b) : fetchThen k go s = go b s := by
  obtain ⟨a, ha, hb⟩ := Option.bind_eq_some_iff.1 h
  simp [fetchThen, ha, hb]

/-- A failed translation is `X86_ISA`'s fault. -/
theorem fetchThen_failed {k : Nat} {go : Byte → State → Result} {s : State} (h : fetchAddr s k = none) :
    fetchThen k go s = .next (applyEffect (Config.x86FetchFault s.x86 (busView s)) s) := by
  simp [fetchThen, h]

/-- Where nothing is listed the environment answers, one draw later. -/
theorem fetchThen_environment {k a : Nat} {go : Byte → State → Result} {s : State} (h : fetchAddr s k = some a)
    (hb : s.codeByte a = none) : fetchThen k go s = go (Config.environmentByte s.free a) { s with free := s.free + 1 } := by
  simp [fetchThen, h, hb]

/-- When an instruction's bytes are found, it is run. -/
theorem runInstruction_ours {s : State} {i : Instr}
    (h : ∀ k (h : k < (encode i).length), (fetchAddr s k).bind s.codeByte = some ((encode i)[k])) :
    runInstruction s = exec i s := by
  have h0 := h 0 (by cases i <;> decide)
  unfold runInstruction
  rw [fetchThen_listed h0]
  cases i
  · rfl
  all_goals
    have h1 := h 1 (by decide)
    have hs : decode [0x0F#8] = .tooShort := by decide
    simp only [encode, List.getElem_cons_zero, List.getElem_cons_succ, hs] at h1 ⊢
    rw [fetchThen_listed h1]
    rfl

/-- When two bytes are found that are none of the four instructions, they are left to `X86_ISA`. -/
theorem runInstruction_foreign {s : State} {b c : Byte} (h0 : (fetchAddr s 0).bind s.codeByte = some b)
    (h1 : (fetchAddr s 1).bind s.codeByte = some c) (hd : ∀ i rest, decode [b, c] ≠ .ours i rest) :
    runInstruction s = runForeign s := by
  unfold runInstruction
  rw [fetchThen_listed h0]
  by_cases e1 : b = 0xF4#8
  · exact absurd (by simp [decode, e1]) (hd .hlt [c])
  · by_cases e2 : b = 0x0F#8
    · subst e2
      have hs : decode [0x0F#8] = .tooShort := by decide
      simp only [hs]
      rw [fetchThen_listed h1]
      cases h : decode [0x0F#8, c] <;> simp_all [runDecoded]
    · simp [decode, e1, e2, runDecoded]

/-! ### Probe -/

/-- Outside Probe, leaving it does nothing. -/
theorem leaveProbe_of_ne {s : State} (h : s.pm ≠ .probe) : leaveProbe s = s := by
  unfold leaveProbe; split <;> first | contradiction | rfl

/-- Leaving Probe, in every power state. -/
theorem leaveProbe_restPm_eq (s : State) : leaveProbe s = { s with pm := s.restPm } := by
  by_cases h : s.pm = .probe
  · unfold leaveProbe; rw [h]; simp [State.restPm, Power.behind, h]
  · rw [leaveProbe_of_ne h, restPm_of_ne h]

/-! ### An event's pin changes pins and times only -/

@[simp] theorem mark_part (k : Kind) (s : State) : (k.mark s).part = s.part := by cases k <;> rfl
@[simp] theorem mark_supply (k : Kind) (s : State) : (k.mark s).supply = s.supply := by cases k <;> rfl
@[simp] theorem mark_rst (k : Kind) (s : State) : (k.mark s).rst = s.rst := by cases k <;> rfl
@[simp] theorem mark_pm (k : Kind) (s : State) : (k.mark s).pm = s.pm := by cases k <;> rfl
@[simp] theorem mark_probeRet (k : Kind) (s : State) : (k.mark s).probeRet = s.probeRet := by cases k <;> rfl
@[simp] theorem mark_sgFromHalt (k : Kind) (s : State) : (k.mark s).sgFromHalt = s.sgFromHalt := by cases k <;> rfl
@[simp] theorem mark_conn (k : Kind) (s : State) : (k.mark s).conn = s.conn := by cases k <;> rfl
@[simp] theorem mark_discReq (k : Kind) (s : State) : (k.mark s).discReq = s.discReq := by cases k <;> rfl
@[simp] theorem mark_oweSg (k : Kind) (s : State) : (k.mark s).oweSg = s.oweSg := by cases k <;> rfl
@[simp] theorem mark_wake (k : Kind) (s : State) : (k.mark s).wake = s.wake := by cases k <;> rfl
@[simp] theorem mark_latched (k : Kind) (s : State) : (k.mark s).latched = s.latched := by cases k <;> rfl
@[simp] theorem mark_intrPending (k : Kind) (s : State) : (k.mark s).intrPending = s.intrPending := by cases k <;> rfl
@[simp] theorem mark_deferred (k : Kind) (s : State) : (k.mark s).deferred = s.deferred := by cases k <;> rfl
@[simp] theorem mark_clkCtl (k : Kind) (s : State) : (k.mark s).clkCtl = s.clkCtl := by cases k <;> rfl
@[simp] theorem mark_clockDiv (k : Kind) (s : State) : (k.mark s).clockDiv = s.clockDiv := by cases k <;> rfl
@[simp] theorem mark_sip (k : Kind) (s : State) : (k.mark s).sip = s.sip := by cases k <;> rfl
@[simp] theorem mark_x86 (k : Kind) (s : State) : (k.mark s).x86 = s.x86 := by cases k <;> rfl
@[simp] theorem mark_cache (k : Kind) (s : State) : (k.mark s).cache = s.cache := by cases k <;> rfl
@[simp] theorem mark_out (k : Kind) (s : State) : (k.mark s).out = s.out := by cases k <;> rfl
@[simp] theorem mark_mem (k : Kind) (s : State) : (k.mark s).mem = s.mem := by cases k <;> rfl
@[simp] theorem mark_env (k : Kind) (s : State) : (k.mark s).env = s.env := by cases k <;> rfl
@[simp] theorem mark_inputs (k : Kind) (s : State) : (k.mark s).inputs = s.inputs := by cases k <;> rfl
@[simp] theorem mark_free (k : Kind) (s : State) : (k.mark s).free = s.free := by cases k <;> rfl
@[simp] theorem mark_running (k : Kind) (s : State) : (k.mark s).running = s.running := by cases k <;> rfl

/-! ### An instruction boundary -/

/-- With no INTR due an instruction runs. -/
theorem atBoundary_none {s : State} (h : s.intrPending = false ∨ s.x86.intrMasked = true) : atBoundary s = runInstruction s := by
  rcases h with h | h <;> simp [atBoundary, State.intrDue, h]

/-- A pending INTR that is masked no longer is taken (40_power_states.md R142). -/
theorem atBoundary_due {s : State} (h : s.intrPending = true) (hm : s.x86.intrMasked = false) :
    atBoundary s = .next (deliver .intr 0 s) := by
  simp [atBoundary, State.intrDue, h, hm]

/-- In Working the own step is what happens at the boundary. -/
theorem ownWork_working {s : State} (hr : s.running = true) (hp : s.pm = .working) (hc : s.conn = .connected) :
    ownWork s = atBoundary s := by
  simp [ownWork, hr, hp, hc]

/-! ### Events -/

/-- The input event of a kind: the pin's level, then the event; only an APIC event's message matters. -/
theorem onInput_kind (k : Kind) (m : Opaque) (s : State) :
    onInput (k.input m) s = comeTo (onEvent k (if k = .apic then m else 0) (k.mark s)) := by
  cases k <;> rfl

/-- Only an APIC event's message matters. -/
theorem deliver_message (k : Kind) (m : Opaque) (s : State) : deliver k (if k = .apic then m else 0) s = deliver k m s := by
  cases k <;> rfl

theorem latch_message (k : Kind) (m : Opaque) (s : State) : latch k (if k = .apic then m else 0) s = latch k m s := by
  cases k <;> rfl

/-- Outside Probe no probe is being serviced there. -/
theorem servicing_of_ne {s : State} (h : s.pm ≠ .probe) : s.servicing = false := by
  simp [State.servicing, h]

/-- Outside Probe an event meets the power state at once. -/
theorem onEvent_of_ne {k : Kind} {m : Opaque} {s : State} (hr : s.running = true) (hp : s.pm ≠ .probe) :
    onEvent k m s = if s.deliverable k then takeOrLatch k m s else s := by
  simp [onEvent, hr, servicing_of_ne hp, leaveProbe_of_ne hp]

/-- An event in Working is delivered (60_exceptions.md R403). -/
theorem onEvent_working {k : Kind} {m : Opaque} {s : State} (hr : s.running = true) (hp : s.pm = .working)
    (hd : s.deliverable k = true) : onEvent k m s = deliver k m s := by
  rw [onEvent_of_ne hr (by simp [hp]), if_pos hd]; unfold takeOrLatch; rw [hp]; exact takeEvent_taken m hd

/-- An event in Halt is latched and is a wake-up event (40_power_states.md R138). -/
theorem onEvent_halt {k : Kind} {m : Opaque} {s : State} (hr : s.running = true) (hp : s.pm = .halt)
    (hd : s.deliverable k = true) : onEvent k m s = wakeUp finishHalt (latch k m s) := by
  rw [onEvent_of_ne hr (by simp [hp]), if_pos hd]; unfold takeOrLatch; rw [hp]

/-- An event in Stop Grant is latched (R141). -/
theorem onEvent_stopGrant {k : Kind} {m : Opaque} {s : State} (hr : s.running = true) (hp : s.pm = .stopGrant) :
    onEvent k m s = if s.deliverable k then latch k m s else s := by
  rw [onEvent_of_ne hr (by simp [hp])]; unfold takeOrLatch; rw [hp]

/-- While a probe is being serviced an event is remembered (R153, 92 D17). -/
theorem onEvent_servicing {k : Kind} {m : Opaque} {s : State} (hr : s.running = true) (hd : s.deliverable k = true)
    (hv : s.servicing = true) : onEvent k m s = defer (.event k m) s := by
  simp [onEvent, hr, hd, hv]

/-- While not running an event does nothing. -/
theorem onEvent_off {k : Kind} {m : Opaque} {s : State} (hr : s.running = false) : onEvent k m s = s := by
  simp [onEvent, hr]

/-! ### VCC_CORE's tolerance -/

/-- Where a step does not end in a running Working state, Table 6 asks nothing (43_electrical_thermal.md R240). -/
theorem vccCoreOk_of_ne {s : State} (h : s.pm ≠ .working) : s.vccCoreOk = true := by
  simp [State.vccCoreOk, h]

theorem vccCoreOk_of_off {s : State} (h : s.running = false) : s.vccCoreOk = true := by
  simp [State.vccCoreOk, h]

/-- A level within the tolerance is enough, and in a running Working state it is needed. -/
theorem vccCoreOk_of_tolerance {s : State} (h : s.vccInTolerance = true) : s.vccCoreOk = true := by
  simp [State.vccCoreOk, h]

theorem vccCoreOk_working {s : State} (hr : s.running = true) (hp : s.pm = .working) : s.vccCoreOk = s.vccInTolerance := by
  simp [State.vccCoreOk, hr, hp]

/-- Whether VCC_CORE is in tolerance is a matter of its level and of the durations outside the static window. -/
theorem vccInTolerance_congr {s t : State} (hv : t.env.vccCoreMv = s.env.vccCoreMv)
    (ha : t.times.vccAbove = s.times.vccAbove) (hb : t.times.vccBelow = s.times.vccBelow) :
    t.vccInTolerance = s.vccInTolerance := by
  simp [State.vccInTolerance, hv, ha, hb]

/-- A level within the static window is in tolerance however long it lasts. -/
theorem vccInTolerance_of_dc {s : State} (h : Electrical.vccCoreDc.admits s.env.vccCoreMv = true) :
    s.vccInTolerance = true := by
  simp [State.vccInTolerance, Electrical.vccCoreAllowed, h]

/-! ### Time conditions -/

theorem clearOf_iff {t : Option Nat} {d now : Nat} : Timing.clearOf t d now = true ↔ ∀ c, t = some c → c + d ≤ now := by
  cases t <;> simp [Timing.clearOf]

theorem since_iff {t : Option Nat} {d now : Nat} : Timing.since t d now = true ↔ ∃ c, t = some c ∧ c + d ≤ now := by
  cases t <;> simp [Timing.since]

end Sys2Proof.Machine
end

