-- ==== Sys2Proof/Tests/Slice0.lean ====
section
/-! SUPPORT. Tests/Slice0.lean: the model's own tests. Expected results are transcribed from the vectors of
95_test_vectors.md, whose names stand in the comments, or written out from the tables of spec/. Then, for every obligation
with hypotheses, a witness: concrete states and operands that meet them all together, clause by clause. -/

namespace Sys2Proof.Tests

open Sys2Proof Sys2Proof.Machine

/-! ### WellFormed: an ill-formed row for each check -/

theorem test_wf_length_refused : (OpcodeRow.mk .op1 [0xF4#8, 0x00#8] 0xF4 0xFFFF).lengthOk = false := by decide

theorem test_wf_escape_refused : (OpcodeRow.mk .op2 [0xF4#8, 0x30#8] 0x30F4 0xFFFF).escapeOk = false := by decide

theorem test_wf_match_refused : (OpcodeRow.mk .op2 [0x0F#8, 0x30#8] 0x0F30 0xFFFF).matchOk = false := by decide

theorem test_wf_mask_refused : (OpcodeRow.mk .op2 [0x0F#8, 0x30#8] 0x300F 0xFF0F).maskOk = false := by decide

theorem test_wf_all : Instr.all.all Instr.wf = true := by decide

/-! ### Decoding: words written out bit by bit from 30_encoding.md R113 (95 I8) -/

theorem test_decode_hlt : decode [0b11110100#8] = .ours .hlt [] := by decide

theorem test_decode_wrmsr : decode [0b00001111#8, 0b00110000#8] = .ours .wrmsr [] := by decide

theorem test_decode_rdmsr : decode [0b00001111#8, 0b00110010#8] = .ours .rdmsr [] := by decide

theorem test_decode_cpuid : decode [0b00001111#8, 0b10100010#8] = .ours .cpuid [] := by decide

/-- 95 I8: `0F 31` is not one of the four. -/
theorem test_decode_0F31 : decode [0b00001111#8, 0b00110001#8] = .foreignEscape 0x31#8 := by decide

/-- 95 I8: any other first byte is `X86_ISA`'s, a prefixed form of one of the four among them. -/
theorem test_decode_prefixed_hlt : decode [0x66#8, 0xF4#8] = .foreignOpcode 0x66#8 := by decide

/-- The words of spec/opcode_table.json. -/
theorem test_table_words :
    decodeTableWord 8 0xF4 = some .hlt ∧ decodeTableWord 16 0xA20F = some .cpuid ∧
    decodeTableWord 16 0x320F = some .rdmsr ∧ decodeTableWord 16 0x300F = some .wrmsr := by decide

/-! ### Small states -/

/-- Whether a step answers a next state with a property. -/
def gives (o : Result) (p : State → Bool) : Bool :=
  match o with
  | .next s    => p s
  | .fault _   => false
  | .refused _ => false

/-- Whether a step is refused for a reason. -/
def refuses (o : Result) (r : Refusal) : Bool :=
  match o with
  | .next _    => false
  | .fault _   => false
  | .refused x => x == r

/-- `(Working, Connected, -)`. -/
def working (is : List Input) : State := { State.reset with inputs := is }

/-- `(Halt, Connected, disc_req)`. -/
def halt : State := { State.reset with pm := .halt, discReq := true, out := [.cycle .halt] }

/-- `(Halt, DiscPend, disc_req)`. -/
def haltPending : State := { halt with conn := .disconnectPending, pins := { halt.pins with connect := false } }

/-- `(Halt, Disconnected, disc_req)`, PR = 0, clock divided by 8. -/
def haltOff : State :=
  { halt with
    conn := .disconnected, clockDiv := 8, out := [.cycle .halt, .procrdy false]
    pins := { halt.pins with connect := false, procrdy := false, clkfwdrst := true } }

/-- `(StopGrant, Connected, disc_req)`. -/
def stopGrant : State :=
  { State.reset with pm := .stopGrant, discReq := true, out := [.cycle .stopGrant]
                     pins := { State.reset.pins with stpclk := true } }

/-- `(StopGrant, Connected, disc_req, sg_from_halt)`. -/
def stopGrantFromHalt : State := { stopGrant with sgFromHalt := true }

/-- `(StopGrant, Disconnected, disc_req)`. -/
def stopGrantOff : State :=
  { stopGrant with
    conn := .disconnected, clockDiv := 8, out := [.cycle .stopGrant, .procrdy false]
    pins := { stopGrant.pins with connect := false, procrdy := false, clkfwdrst := true } }

/-- `(StopGrant, Disconnected, wake, owe_sg, sg_from_halt)`. -/
def stopGrantOwed : State := { stopGrantOff with sgFromHalt := true, oweSg := true, wake := true, discReq := false }

/-- `(Probe[ret], Connected, disc_req)`. -/
def probing (ret : Resting) : State :=
  { stopGrant with pm := .probe, probeRet := ret, pins := { stopGrant.pins with stpclk := ret == .stopGrant } }

/-- The same while a probe is outstanding. -/
def servicing (ret : Resting) : State := { probing ret with env := { stopGrant.env with probeOutstanding := true } }

/-- INTR is not masked. -/
def unmasked (s : State) : State := { s with x86 := { s.x86 with intrMasked := false } }

/-- A wake-up event under way: `(pm, ConnPend2, wake)`, CLKFWDRST fell at time 0. -/
def connecting (s : State) : State :=
  { s with
    conn := .connectPending2, wake := true, discReq := false, clockDiv := 1
    pins := { s.pins with connect := true, procrdy := true, clkfwdrst := false }
    times := { s.times with clkfwdrstAt := some 0 } }

/-- The state with a schedule. -/
def on (s : State) (is : List Input) : State := { s with inputs := is }

/-- The MSR operands of 95 I3 and I6. -/
def withMsr (s : State) (ecx : Dword) : State :=
  { s with x86 := { s.x86 with gpr := { s.x86.gpr with ecx := ecx, eax := 0x20031223#32 } } }

/-! ### Instructions -/

/-- 95 I1, through fetch and decode. -/
theorem test_hlt : gives (step (State.reset.withFetchWord 8 0xF4)) (fun t =>
    t.pm == .halt && t.conn == .connected && t.discReq && t.out == [.cycle .halt]) = true := by decide

/-- HLT advances by its one byte (log entry 12). -/
theorem test_hlt_length : gives (exec .hlt (working [])) (fun t => t.x86.fetch == 0xFFFFFFF1#64) = true := by decide

/-- 95 I6. -/
theorem test_rdmsr : gives (step ((withMsr State.reset 0xC001001B#32).withFetchWord 16 0x320F)) (fun t =>
    t.x86.gpr.eax == 0x20031223#32 && t.x86.gpr.edx == 0#32 && t.clkCtl == 0x20031223#64) = true := by decide

/-- RDMSR puts the high half in EDX. -/
theorem test_rdmsr_halves : gives (exec .rdmsr { withMsr State.reset 0xC001001B#32 with clkCtl := 0x1122334455667788#64 })
    (fun t => t.x86.gpr.eax == 0x55667788#32 && t.x86.gpr.edx == 0x11223344#32) = true := by decide

/-- 95 I3. -/
theorem test_wrmsr : gives (step ({ withMsr State.reset 0xC001001B#32 with clkCtl := 0#64 }.withFetchWord 16 0x300F))
    (fun t => t.clkCtl == 0x20031223#64 && t.pm == .working && t.conn == .connected && t.out == []) = true := by decide

/-- WRMSR takes the high half from EDX. -/
theorem test_wrmsr_halves :
    msrValue { State.reset.x86 with gpr := ⟨1, 0xC001001B, 2, 0, 0, 0, 0, 0⟩ } = 0x0000000200000001#64 := by decide

/-- 95 P1, I4: a write of 0. -/
theorem test_wrmsr_zero : gives (exec .wrmsr { State.reset with
      x86 := { State.reset.x86 with gpr := ⟨0, 0xC001001B, 0, 0, 0, 0, 0, 0⟩ } }) (fun t => t.clkCtl == 0#64) = true := by
  decide

/-- 95 I7: nothing but the four registers (and the fetch address) changes. -/
theorem test_cpuid : gives (step (State.reset.withFetchWord 16 0xA20F)) (fun t =>
    t.pm == .working && t.conn == .connected && t.out == [] && t.clkCtl == 0x20031223#64 &&
    t.x86.fetch == 0xFFFFFFF2#64 && t.x86.gpr.esp == 0#32) = true := by decide

/-- 93 U6: the first fetch after reset goes to 0_FFFF_FFF0h, where nothing is listed. -/
theorem test_fetch_nothing :
    fetchAddr State.reset 0 = some 0xFFFFFFF0 ∧ State.reset.codeByte 0xFFFFFFF0 = none := by decide

/-! ### The power machine -/

/-- 95 T1, last step (the acknowledge follows the Connect special cycle). -/
theorem test_t1_event_order :
    gives (step (on { halt with
      x86 := { halt.x86 with intrMasked := false }, env := { halt.env with vector := 0x30#8 } } [.intr]))
    (fun t => t.pm == .working && !t.discReq && t.out == [.cycle .halt, .cycle .connect, .intAck 0x30#8]) = true := by decide

/-- 95 T2: an NMI in disconnected Halt. -/
theorem test_t2_wakes : gives (step (on haltOff [.nmi])) (fun t =>
    t.pm == .halt && t.wake && !t.discReq && t.latched.nmi && t.out == haltOff.out) = true := by decide

/-- 95 T4. -/
theorem test_t4_release : gives (step (on stopGrant [.stpclkDeassert])) (fun t =>
    t.pm == .working && t.out == [.cycle .stopGrant, .cycle .connect]) = true := by decide

/-- 95 T5: STPCLK# during disconnected Halt. -/
theorem test_t5_owed : gives (step (on haltOff [.stpclkAssert .throttling])) (fun t =>
    t.pm == .stopGrant && t.wake && t.oweSg && t.sgFromHalt && !t.discReq && t.out == haltOff.out) = true := by decide

/-- 95 T6: the release. -/
theorem test_t6_back_to_halt : gives (step (on stopGrantFromHalt [.stpclkDeassert])) (fun t =>
    t.pm == .halt && t.discReq && t.out == [.cycle .stopGrant, .cycle .connect, .cycle .halt]) = true := by decide

/-- 95 T7: an SMI# latched in it. -/
theorem test_t7_latched : gives (step (on { stopGrantFromHalt with latched := { Latched.empty with smi := true } } [.stpclkDeassert]))
    (fun t => t.pm == .working && t.x86.mode == .systemManagement &&
      t.out == [.cycle .stopGrant, .cycle .connect, .cycle .halt, .cycle .connect]) = true := by decide

/-- 95 T8: RESET# in disconnected Stop Grant. -/
theorem test_t8_reset : gives (step (on stopGrantOff [.resetAssert])) (fun t =>
    t.rst == .inReset && t.pm == .working && t.conn == .connected && !t.discReq && t.out == stopGrantOff.out) = true := by
  decide

/-- 95 T11. -/
theorem test_t11_refused : refuses (step (on stopGrantOwed [.stpclkDeassert])) .stpclkReleasedEarly = true := by decide

/-! ### The connect machine -/

/-- 95 W3: cancelled disconnect; PROCRDY stays. -/
theorem test_w3_cancel : gives (step (on haltPending [.nmi])) (fun t =>
    t.pm == .working && t.conn == .connected && t.pins.procrdy && t.out == [.cycle .halt, .cycle .connect]) = true := by
  decide

/-- 95 K3: the Northbridge connects to probe. -/
theorem test_k3_probe : gives (step (on stopGrantOff [.connectAssert])) (fun t =>
    t.pm == .probe && t.probeRet == .stopGrant && t.conn == .connectPending1 && t.discReq && t.pins.procrdy &&
    t.clockDiv == 1) = true := by decide

/-- 95 K6. -/
theorem test_k6_refused : refuses (step (working [.connectDeassert])) .disconnectNotInvited = true := by decide

/-- 95 K7: 48 ns after the last command, not 47.999 ns. -/
theorem test_k7_wait :
    refuses (step (on { halt with times := { halt.times with commandAt := some 0, now := 47999 } } [.connectDeassert]))
      .disconnectTooEarly = true ∧
    gives (step (on { halt with times := { halt.times with commandAt := some 0, now := 48000 } } [.connectDeassert]))
      (fun t => t.conn == .disconnectPending) = true := by decide

/-- 95 K8. -/
theorem test_k8_refused : refuses (step (on haltPending [.probe 7])) .probeWhileDisconnected = true := by decide

/-! ### Events and reset -/

/-- 95 X6: five events, one acknowledge at most, and the one there is comes last; none where INTR is masked by then (40 R142). -/
theorem test_x6_one_ack :
    let s : State := { stopGrant with latched := ⟨true, true, true, true, true, 0⟩ }
    (deliverLatched s).out = [.cycle .stopGrant] ++ (if s.atIntr.x86.intrMasked then [] else [.intAck 0]) := by
  simp only [deliverLatched_out, State.latchedAck]
  split <;> simp_all <;> rfl

/-- 40 R142: a latched INTR, masked when Working is reached, stays pending and sends nothing; not masked, it is acknowledged. -/
theorem test_latched_intr_masked :
    gives (step (on { stopGrant with latched := { Latched.empty with intr := true } } [.stpclkDeassert])) (fun t =>
      t.pm == .working && t.intrPending && !t.latched.any && t.out == [.cycle .stopGrant, .cycle .connect]) = true ∧
    gives (step (on (unmasked { stopGrant with latched := { Latched.empty with intr := true } }) [.stpclkDeassert])) (fun t =>
      !t.intrPending && t.out == [.cycle .stopGrant, .cycle .connect, .intAck 0]) = true := by decide

/-- 40 R142: once it is masked no longer, a pending INTR is acknowledged at the next boundary, before an instruction. -/
theorem test_pending_intr :
    gives (step (on (unmasked { State.reset with intrPending := true }) [.step false])) (fun t =>
      !t.intrPending && t.out == [.intAck 0] && t.inputs == []) = true := by decide

/-- 95 X11: an NMI in Probe from Halt, no probe outstanding. 40 R153, 92 D17: with one outstanding it waits for probe_done; then the
same, and so do the two edges of STPCLK#, in their order, each with its special cycles. -/
theorem test_x11_probe :
    gives (step (on (probing .halt) [.nmi])) (fun t => t.pm == .working && t.out == [.cycle .stopGrant, .cycle .connect]) = true ∧
    gives (step (on (servicing .halt) [.nmi])) (fun t => t.pm == .probe && t.deferred == [.event .nmi 0] &&
      t.out == [.cycle .stopGrant] && !t.latched.any) = true ∧
    gives (runSteps 2 (on (servicing .halt) [.nmi, .probeDone])) (fun t => t.pm == .working && t.deferred == [] &&
      t.out == [.cycle .stopGrant, .cycle .connect]) = true ∧
    gives (runSteps 3 (on (servicing .halt) [.stpclkAssert .throttling, .stpclkDeassert, .probeDone])) (fun t =>
      t.pm == .halt && !t.pins.stpclk &&
      t.out == [.cycle .stopGrant, .cycle .connect, .cycle .stopGrant, .cycle .connect, .cycle .halt]) = true := by decide

/-- 95 X3: a masked INTR in Stop Grant. -/
theorem test_x3_masked : gives (step (on stopGrant [.intr])) (fun t => !t.latched.any && t.pins.intr) = true := by decide

/-- 95 Z2: PWROK 2 ms after 3.3 V good. -/
theorem test_z2_refused :
    refuses (step (on { State.unpowered with
      supply := .ringOsc
      pins := { State.unpowered.pins with reset := true, sysclk := true }
      env := { State.unpowered.env with vccCoreMv := 1650 }
      times := { State.unpowered.times with resetAt := some 0, v33At := some 0, vccaAt := some 0, now := 2000000000 } }
      [.pwrokAssert])) .supplyLate = true := by decide

/-- 43 R240: 10 us above 1.7 V are one excursion's limit, whatever the levels. -/
theorem test_vcc_excursion :
    gives (step (on State.reset [.rail .vccCore 1750 10000000])) (fun t => t.times.vccAbove == 10000000) = true ∧
    refuses (andThen (step (on State.reset [.rail .vccCore 1750 10000000])) fun s => step (on s [.rail .vccCore 1760 1]))
      (.voltageOutOfRange .vccCore) = true := by decide

/-- 43 R252: SYSCLK does not jump by more than 300 ps. -/
theorem test_sysclk_jump : refuses (step (on State.reset [.sysclkPeriod 20000])) .clockOutOfRange = true := by decide

/-- 43 R252 note 3: 6000, 6050, 6000 ps with no time between is faster than 100 kHz; with half a cycle of it, not. -/
theorem test_spread_rate :
    refuses (andThen (step (on State.reset [.sysclkPeriod 6050])) fun s => step (on s [.sysclkPeriod 6000])) .clockOutOfRange
      = true ∧
    gives (andThen (step (on State.reset [.sysclkPeriod 6050])) fun s => andThen (step (on s [.elapse 5000000])) fun s =>
      step (on s [.sysclkPeriod 6000])) (fun t => t.times.period == 6000) = true := by decide

/-- 70 R476: RESET# is captured as the other pins are; a lost assertion counts for TRPT too. -/
theorem test_capture :
    gives (step (on stopGrantOff [.pulse .a20m 20000])) (fun t => !t.pins.a20m && t.times.a20mAt == some 0) = true ∧
    refuses (step (on stopGrant [.pulse .reset 20000])) .resetReleasedEarly = true ∧
    gives (lostPulse .nmi 5 State.reset) (fun t => t.times.nmiAt == some 0 && !t.captureSure .nmi 20000) = true := by
  decide

/-- 20 R93: reconnected for another bus master, but not probed; and in a later Halt that was never disconnected. -/
theorem test_bus_master : refuses (step (on { stopGrant with env := { stopGrant.env with probeDue := true } } [.busRead 5#64]))
    .busMasterWithoutProbe = true ∧
    gives (andThen (step (on { stopGrant with env := { stopGrant.env with probeDue := true } } [.stpclkDeassert])) fun s =>
      andThen (exec .hlt (on s [])) fun s => step (on s [.busRead 5#64])) (fun t => t.pm == .halt) = true := by decide

/-- 95 A1: A20M# in addresses. -/
theorem test_a1_a20m :
    phys false 0x100000#64 = 0x100000 ∧ phys true 0x100000#64 = 0 ∧ phys true 0x10FFEF#64 = 0xFFEF ∧
    phys true 0xFFFFF#64 = 0xFFFFF ∧ phys true 0x300000#64 = 0x200000 ∧ phys true 0xFFFFFFF0#64 = 0xFFEFFFF0 := by
  decide

/-- 95 W8: the byte order. -/
theorem test_w8_little_endian :
    let m : Memory := [(0x1000, 0x23), (0x1001, 0x12), (0x1002, 0x03), (0x1003, 0x20)]
    memRead m false 0x1000#64 4 = some 0x20031223 ∧ memRead m false 0x1002#64 2 = some 0x2003 := by decide

/-- 20 R84: a beat writes its enabled bytes and no other. -/
theorem test_beat : (Bus.Beat.mk 2 0b10000001#8 0x1122334455667788#64).write [(17, 9)] = [(16, 0x88), (17, 9), (23, 0x11)] := by
  decide

/-- 45 R313 and 43 R235: INTR is a level and an event; STPCLK#'s table is the general one, VCCA's its own. -/
theorem test_signal_tables :
    Signal.intr.use = .levelEvent ∧ Signal.stpclk.tables = [.general] ∧ Signal.vcca.tables = [.vcca] ∧
    Signal.connect.tables = [.busDc, .busSync] ∧ Signal.cpuPresence.tables = [] ∧ Signal.vrefsys.tables = [.busVref] := by decide

/-- 43 R261, R262: which rows are whose: a data pin's, an input clock's, PROCRDY's, CONNECT's. -/
theorem test_bus_rows :
    (ElectricalTable.rows (.sdata 0) 1650 825 1833 .busForwarded).map (·.1) = ["Rise", "Fall", "Skew", "Setup", "Hold"] ∧
    (ElectricalTable.rows .saddinclk 1650 825 1833 .busForwarded).map (·.1) = ["Rise", "Fall", "CIN"] ∧
    (ElectricalTable.rows .procrdy 1650 825 1833 .busSync).map (·.1) = ["Rise", "Fall", "TVAL"] ∧
    (ElectricalTable.rows .connect 1650 825 1833 .busSync).map (·.1) = ["Rise", "Fall", "TSU", "THD"] := by decide

/-- 43 R240, R266: VCC_CORE's four rows; TVALID for open-drain outputs (FID, VID, PLLMON2), for no push-pull pin; TBIT for inputs. -/
theorem test_limit_rows :
    let names := fun g : Signal => (g.limits 1650 825 1833).map (·.1)
    let valid := fun g : Signal => (names g).contains "TVALID"
    names .vccCore = ["DC", "AC", "tMAX_AC", "tMIN_AC"] ∧ names .corefbN = names .vccCore ∧ names (.fid 0) = ["IOL", "VOH", "TVALID"] ∧
    valid (.vid 0) = true ∧ valid .pllmon2 = true ∧ valid (.picd 0) = true ∧ valid .stpclk = false ∧ valid .picclk = false ∧
    (names .stpclk).contains "TBIT" = true ∧ (names .ferr).contains "TBIT" = false ∧ (names .ferr).contains "TDELAY" = true ∧
    (names .stpclk).contains "TDELAY" = false := by decide

/-- 44 R292: maxima, and the contact each is defined for. -/
theorem test_load :
    Package.loadAllowed .dieSurface false 0 30 = true ∧ Package.loadAllowed .dieSurface false 0 31 = false ∧
    Package.loadAllowed .dieSurface false 1 30 = false ∧ Package.loadAllowed .dieEdge true 2 10 = true ∧
    Package.loadAllowed .dieEdge true 3 10 = false := by decide

/-- 43 R270, Table 13: both pins of the diode have its four rows. -/
theorem test_diode_rows :
    Signal.limits .thermda 1650 825 1833 = [("I", ⟨some 5, none, some 300⟩), ("nf,lumped", ⟨some 100000, some 100374, some 100900⟩),
      ("nf,actual", ⟨none, some 100261, none⟩), ("RT", ⟨none, some 930, none⟩)] ∧
    Signal.limits .thermdc 1650 825 1833 = Signal.limits .thermda 1650 825 1833 := by decide

/-- The rows and the values the equations use are the same of Table 13. -/
theorem test_diode_values :
    Electrical.diodeSourcing.min.map Int.cast = some Thermal.sourcingMin ∧
    Electrical.diodeSourcing.max.map Int.cast = some Thermal.sourcingMax ∧
    (Electrical.diodeLumped.min.map fun n : Int => (n : Rat) / 100000) = some Thermal.lumpedMin ∧
    (Electrical.diodeLumped.nom.map fun n : Int => (n : Rat) / 100000) = some Thermal.lumpedNom ∧
    (Electrical.diodeLumped.max.map fun n : Int => (n : Rat) / 100000) = some Thermal.lumpedMax ∧
    (Electrical.diodeActual.nom.map fun n : Int => (n : Rat) / 100000) = some Thermal.actualNom ∧
    (Electrical.diodeSeries.nom.map fun n : Int => (n : Rat) / 1000) = some Thermal.seriesOhm := by
  norm_num [Electrical.diodeSourcing, Electrical.diodeLumped, Electrical.diodeActual, Electrical.diodeSeries, Thermal.sourcingMin,
    Thermal.sourcingMax, Thermal.lumpedMin, Thermal.lumpedNom, Thermal.lumpedMax, Thermal.actualNom, Thermal.seriesOhm]

/-- 95 W10 (V-DIODE): with its k/q and logarithm, at the point Table 13 is characterised at, and at 85 °C. -/
theorem test_diode_characterised :
    |Thermal.lumpedAt Thermal.characterised (86173 / 1000000000) (2302585 / 1000000) - 1003756 / 1000000| < 1 / 1000000 ∧
    |Thermal.lumpedAt Thermal.characterised (86173 / 1000000000) (2302585 / 1000000) - Thermal.lumpedNom| < 2 / 100000 ∧
    |Thermal.lumpedAt { Thermal.characterised with celsius := 85 } (86173 / 1000000000) (2302585 / 1000000)
      - 1003788 / 1000000| < 1 / 1000000 := by
  norm_num [Thermal.lumpedAt, Thermal.characterised, Thermal.lumpedIdeality, Thermal.actualNom, Thermal.seriesOhm,
    Thermal.lumpedNom, abs_lt]

/-- 10_state.md R36: VCC_CORE coming to 1650 mV powers the machine, falling to 0 in Halt removes the supply; at 0 nothing is applied. -/
theorem test_supply_follows_vcc :
    gives (step (on State.unpowered [.rail .vccCore 1650 1])) (fun t => t.supply == .ringOsc && t.times.now == 1) = true ∧
    gives (step (on halt [.rail .vccCore 0 1])) (fun t => t.supply == .off && t.env.vccCoreMv == 0) = true ∧
    refuses (step (on State.unpowered [.vccCoreOn 0])) .noEdge = true := by decide

/-- 95 M2 and M3: look-ups in the pin map. -/
theorem test_m2_pins :
    pinsOf .stpclk = [(.ac, 1)] ∧ pinsOf .procrdy = [(.an, 23)] ∧ pinsOf (.sdata 0) = [(.aa, 35)] ∧
    pinsOf (.sdata 63) = [(.a, 15)] := by decide

/-! ### Witnesses: states and operands that meet the hypotheses of the obligations, clause by clause -/

/-- A machine in Working that has already slept once. -/
def again : State := { State.reset with out := [.cycle .halt, .cycle .connect] }

/-- The same with STPCLK# asserted. -/
def asked : State := { again with pins := { again.pins with stpclk := true } }

/-- The current mode allows neither HLT nor the MSR instructions. -/
def user (s : State) : State := { s with x86 := { s.x86 with privileged := false } }

/-- `(pm, ConnPend1, disc_req)`, CLKFWDRST asserted. -/
def connecting1 (s : State) (connect : Bool) : State :=
  { s with conn := .connectPending1, clockDiv := 1, pins := { s.pins with procrdy := true, clkfwdrst := true, connect := connect } }

/-- Right after the forwarded clocks' grace: the time is the last at which they may start. -/
def due (s : State) : State := { s with times := { s.times with now := 18000 } }

/-- Unpowered no longer: the ring oscillator clocks the core, everything PWROK needs is there, to the picosecond. -/
def ready : State :=
  { State.unpowered with
    supply := .ringOsc
    pins := { State.unpowered.pins with reset := true, sysclk := true }
    env := { State.unpowered.env with vccCoreMv := 1600 }
    times := { State.unpowered.times with resetAt := some 0, v33At := some 0, vccaAt := some 0, now := 3000000000 } }

/-- In reset, with everything RESET#'s release needs, to the picosecond. -/
def releasable : State :=
  { ready with
    supply := .pll
    pins := { ready.pins with pwrok := true }
    env := { ready.env with nbResetSeen := true, connectSampled := true }
    times := { ready.times with pwrokAt := some 3000000000, now := 4000000000 } }

/-- 95 V-FSB, V-VID, 45 R341: AH30 Low and AG31 High; VID[3] High and VID[4] Low; FID[0] of the 3000+ High while it is valid, of no
known level in a run. -/
theorem test_strap_levels :
    pinsOf (.fsbSense 1) = [(.ah, 30)] ∧ State.reset.wire? (.fsbSense 1) = some false ∧
    pinsOf (.fsbSense 0) = [(.ag, 31)] ∧ State.reset.wire? (.fsbSense 0) = some true ∧
    State.reset.wire? (.vid 3) = some true ∧ State.reset.wire? (.vid 4) = some false ∧
    releasable.wire? (.fid 0) = some true ∧ State.reset.wire? (.fid 0) = none := by decide

/-- What StepRunsDecodedInstruction asks of a state. -/
abbrev Ready (s : State) (i : Instr) : Prop :=
  i.wf = true ∧ s.running = true ∧ s.pm = .working ∧ s.conn = .connected ∧
    (s.intrPending = false ∨ s.x86.intrMasked = true) ∧
    ∀ k (h : k < (encode i).length), (fetchAddr s k).bind s.codeByte = some ((encode i)[k])

theorem witness_StepRunsDecodedInstruction :
    (Ready (State.reset.withFetchWord 8 0xF4) .hlt ∧ Ready (State.reset.withFetchWord 16 0xA20F) .cpuid ∧
      Ready (State.reset.withFetchWord 16 0x300F) .wrmsr ∧ Ready (State.reset.withFetchWord 16 0x320F) .rdmsr) ∧
    Ready (on (State.reset.withFetchWord 16 0x320F) [.step false]) .rdmsr ∧
    Ready (on (State.reset.withFetchWord 16 0x320F) [.step true]) .rdmsr ∧
    (State.reset.withFetchWord 16 0x320F).inputs = [] ∧ (State.reset.withFetchWord 16 0x320F).pins.stpclk = false := by
  decide

/-- A machine right after reset that finds these bytes in memory. -/
def finds (m : Memory) : State := on { State.reset with mem := m } [.step false]

/-- The inputs with which the next step is the processor's own, in Working, and STPCLK# is not recognised. -/
abbrev Own (s : State) (is : List Input) : Prop :=
  s.inputs = .step false :: is ∨ s.pins.stpclk = false ∧ (s.inputs = .step true :: is ∨ s.inputs = [] ∧ is = [])

/-- Where the first byte comes from, and where the second. -/
def found (m : Memory) (k : Nat) : Option (Option Byte) := (fetchAddr (finds m) k).map (finds m).codeByte

/-- The three forms of the own step, and one with STPCLK# asserted; HLT; a foreign first byte; each of the two-byte instructions; a
foreign second byte; nothing listed for the first byte; an escape with nothing listed for the second one. -/
theorem witness_StepLeavesOtherBytesToX86 :
    (∀ m : Memory, (finds m).running = true ∧ (finds m).pm = .working ∧ (finds m).conn = .connected ∧
      (finds m).intrPending = false ∧ Own (finds m) []) ∧
    (Own (on State.reset [.step true]) [] ∧ Own State.reset [] ∧
      Own { on State.reset [.step false] with pins := { State.reset.pins with stpclk := true } } []) ∧
    (found [(0xFFFFFFF0, 0xF4#8)] 0 = some (some 0xF4#8) ∧ found [(0xFFFFFFF0, 0x90#8)] 0 = some (some 0x90#8)) ∧
    (found [(0xFFFFFFF0, 0x0F#8), (0xFFFFFFF1, 0x30#8)] 0 = some (some 0x0F#8) ∧
      found [(0xFFFFFFF0, 0x0F#8), (0xFFFFFFF1, 0x30#8)] 1 = some (some 0x30#8) ∧
      found [(0xFFFFFFF0, 0x0F#8), (0xFFFFFFF1, 0x32#8)] 1 = some (some 0x32#8) ∧
      found [(0xFFFFFFF0, 0x0F#8), (0xFFFFFFF1, 0xA2#8)] 1 = some (some 0xA2#8) ∧
      found [(0xFFFFFFF0, 0x0F#8), (0xFFFFFFF1, 0x31#8)] 1 = some (some 0x31#8)) ∧
    (found [] 0 = some none ∧ found [(0xFFFFFFF0, 0x0F#8)] 1 = some none) :=
  ⟨fun _ => ⟨rfl, rfl, rfl, rfl, .inl rfl⟩, by decide, by decide, by decide, by decide⟩

/-- An INTR that is pending and masked no longer, in each form of the own step. -/
theorem witness_LatchedEventsDeliveredInOrder :
    let s : State := unmasked { State.reset with intrPending := true }
    s.running = true ∧ s.pm = .working ∧ s.conn = .connected ∧ s.intrPending = true ∧ s.x86.intrMasked = false ∧
    Own (on s [.step false]) [] ∧ Own (on s [.step true]) [] ∧ Own s [] := by decide

theorem witness_HltEntersHalt : State.reset.pm = .working ∧ State.reset.x86.privileged = true := by decide

theorem witness_HltOutsideWorkingRefused : halt.pm ≠ .working ∧ (probing .halt).pm ≠ .working := by decide

theorem witness_RdmsrReadsClkCtl_WrmsrWritesClkCtl :
    (withMsr State.reset 0xC001001B#32).x86.privileged = true ∧
    (withMsr State.reset 0xC001001B#32).x86.gpr.ecx = 0xC001001B#32 ∧
    msrValue (withMsr State.reset 0xC001001B#32).x86 = 0x20031223#64 := by decide

theorem witness_InstructionsAdvanceFetch :
    (withMsr State.reset 0xC001001B#32).pm = .working ∧ (withMsr State.reset 0xC001001B#32).x86.privileged = true ∧
    (withMsr State.reset 0xC001001B#32).x86.gpr.ecx = 0xC001001B#32 ∧
    writeAllowed 0x20031223#64 (msrValue (withMsr State.reset 0xC001001B#32).x86) = true := by decide

/-- HLT not allowed; RDMSR and WRMSR not allowed; RDMSR and WRMSR of the two neighbouring addresses. -/
theorem witness_X86DecidesTheRest :
    ((user State.reset).pm = .working ∧ (user State.reset).x86.privileged = false) ∧
    (user (withMsr State.reset 0xC001001B#32)).x86.privileged = false ∧
    (withMsr State.reset 0xC001001A#32).x86.gpr.ecx ≠ 0xC001001B#32 ∧
    (withMsr State.reset 0xC001001C#32).x86.gpr.ecx ≠ 0xC001001B#32 := by decide

/-- Several bytes, listed, and a physical address outside them. -/
theorem witness_MemoryIsLittleEndian :
    memRead [(4, 1), (5, 2)] false 4#64 2 = some 0x201 ∧ 4 ≤ 2 ^ 20 ∧
    (∀ k < 4, phys true (0x1000#64 + BitVec.ofNat 64 k) ≠ 0x1004) := by decide

theorem witness_CanonicalMemoriesEqual :
    Memory.wf [(4, 1), (7, 2)] = true ∧ ∀ a, Memory.read [(4, 1), (7, 2)] a = Memory.read [(4, 1), (7, 2)] a :=
  ⟨by decide, fun _ => rfl⟩

theorem witness_A20mClearsBit20 :
    (0x1FFFFFFFF#64).toNat < 2 ^ 33 ∧ (0x100000#64).toNat < 2 ^ 33 ∧ 0x100000 ≤ (0x100000#64).toNat ∧
    (0x10FFEF#64).toNat ≤ 0x10FFEF ∧ (on again [.speculate .empty]).inputs = .speculate .empty :: [] ∧
    gives (step (on { again with cache := { again.cache with code := [(7, 1)] } } [.speculate { Caches.empty with code := [(7, 1)] }]))
      (fun t => t.cache.code.read 7 == some 1) = true := by decide

/-- Disconnected; connected in S1; connected without a probe; none of these; not running. -/
theorem witness_BusMasterNeedsConnectAndProbe :
    ((on haltOff [.busWrite 5#64 1#8]).inputs = .busWrite 5#64 1#8 :: [] ∧
      (on haltOff [.busWrite 5#64 1#8]).running = true ∧ (on haltOff [.busWrite 5#64 1#8]).conn ≠ .connected) ∧
    (({ stopGrant with env := { stopGrant.env with stpclkCause := .sleepS1 } } : State).inS1 = true ∧
      stopGrant.running = true ∧ stopGrant.conn = .connected) ∧
    (({ stopGrant with env := { stopGrant.env with probeDue := true } } : State).env.probeDue = true ∧
      stopGrant.pm ≠ .working ∧ stopGrant.inS1 = false) ∧
    ((on halt [.busRead 5#64]).inputs = .busRead 5#64 :: [] ∧ halt.conn = .connected ∧ halt.env.probeDue = false) ∧
    State.unpowered.running = false := by decide

theorem witness_EventInWorkingIsDelivered :
    (∀ k : Kind, (on (unmasked State.reset) [k.input 9]).inputs = k.input 9 :: []) ∧
    (unmasked State.reset).running = true ∧ (unmasked State.reset).pm = .working ∧
    (unmasked State.reset).x86.intrMasked = false ∧ (unmasked State.reset).vccInTolerance = true :=
  ⟨fun _ => rfl, by decide, by decide, by decide, by decide⟩

theorem witness_InitInWorking :
    (working [.init]).inputs = .init :: [] ∧ (working [.init]).running = true ∧ (working [.init]).pm = .working ∧
    (working [.init]).vccInTolerance = true := by decide

theorem witness_MaskedIntrIsNoEvent :
    (on haltOff [.intr]).inputs = .intr :: [] ∧ (on haltOff [.intr]).x86.intrMasked = true ∧
    (on haltOff [.intr]).vccCoreOk = true ∧ (working [.intr]).x86.intrMasked = true ∧ (working [.intr]).vccCoreOk = true := by
  decide

/-- With and without an invited disconnect; connected, and with a disconnect pending; every kind. -/
theorem witness_EventEndsConnectedHalt :
    (∀ k : Kind, (on (unmasked halt) [k.input 9]).inputs = k.input 9 :: []) ∧
    (unmasked halt).running = true ∧ (unmasked halt).pm = .halt ∧ (unmasked halt).busUp = true ∧
    (unmasked haltPending).busUp = true ∧ (unmasked halt).latched.any = false ∧ (unmasked halt).vccInTolerance = true ∧
    ∀ k : Kind, (unmasked halt).deliverable k = true :=
  ⟨fun _ => rfl, by decide, by decide, by decide, by decide, by decide, by decide, fun k => by cases k <;> rfl⟩

theorem witness_EventInDisconnectedHaltWakes :
    (on haltOff [.nmi]).inputs = Kind.nmi.input 0 :: [] ∧ haltOff.running = true ∧ haltOff.pm = .halt ∧
    haltOff.busUp = false ∧ haltOff.deliverable .nmi = true ∧ (connecting haltOff).busUp = false := by decide

/-- A masked INTR among the events. -/
theorem witness_EventsInStopGrantAreLatched :
    stopGrant.running = true ∧ stopGrant.pm = .stopGrant ∧
    (on stopGrant [.nmi, .apicMsg 4, .intr, .nmi]).inputs =
      [(Kind.nmi, 0), (Kind.apic, 4), (Kind.intr, 0), (Kind.nmi, 0)].map (fun e => e.1.input e.2) ++ [] := by decide

/-- An event and both edges, with no probe outstanding, while the bus still connects, and while a probe is being serviced. -/
theorem witness_EventInProbeAsInRestingState :
    ((probing .halt).running = true ∧ (probing .halt).pm = .probe ∧ (probing .halt).env.probeOutstanding = false ∧
      (on (probing .halt) [.nmi]).inputs = .nmi :: []) ∧
    (({ servicing .halt with conn := .connectPending1 } : State).conn ≠ .connected ∧ (servicing .halt).running = true ∧
      (servicing .halt).pm = .probe ∧ (servicing .halt).conn = .connected ∧ (servicing .halt).env.probeOutstanding = true ∧
      (servicing .halt).deferred = []) ∧
    (Input.nmi = Kind.input .nmi 0 ∧ (servicing .halt).deliverable .nmi = true ∧
      (on (servicing .halt) [.nmi, .probeDone]).inputs = .nmi :: .probeDone :: []) ∧
    ((servicing .halt).pins.stpclk = false ∧
      (on (servicing .halt) [.stpclkAssert .pLvl2, .probeDone]).inputs = .stpclkAssert .pLvl2 :: .probeDone :: []) ∧
    ((servicing .stopGrant).pins.stpclk = true ∧ (servicing .stopGrant).pm = .probe ∧
      (on (servicing .stopGrant) [.stpclkDeassert, .probeDone]).inputs = .stpclkDeassert :: .probeDone :: []) := by decide

theorem witness_StpclkRecognisedInWorking :
    (on asked [.step true]).inputs = .step true :: [] ∧ (on asked [.step false]).inputs = .step false :: [] ∧
    (on asked []).inputs = [] ∧
    asked.running = true ∧ asked.pm = .working ∧ asked.conn = .connected ∧ asked.pins.stpclk = true ∧
    (({ unmasked asked with intrPending := true } : State).intrPending = true ∧ (unmasked asked).x86.intrMasked = false) := by decide

theorem witness_StpclkInHalt :
    (on halt [.stpclkAssert .pLvl2]).inputs = .stpclkAssert .pLvl2 :: [] ∧ halt.running = true ∧ halt.pm = .halt ∧
    halt.pins.stpclk = false ∧ halt.busUp = true ∧ haltOff.pm = .halt ∧ haltOff.pins.stpclk = false ∧
    haltOff.busUp = false ∧
    (on { halt with pins := { halt.pins with stpclk := true } } [.step true]).inputs = .step true :: [] := by decide

/-- Owed; disconnected; connected from Working; connected from Halt, with and without a latched event. -/
theorem witness_StpclkReleasedInStopGrant :
    ((on stopGrantOwed [.stpclkDeassert]).inputs = .stpclkDeassert :: [] ∧ stopGrantOwed.running = true ∧
      stopGrantOwed.pm = .stopGrant ∧ stopGrantOwed.pins.stpclk = true ∧ stopGrantOwed.oweSg = true) ∧
    (stopGrantOff.oweSg = false ∧ stopGrantOff.busUp = false ∧ stopGrantOff.pm = .stopGrant) ∧
    (stopGrant.oweSg = false ∧ stopGrant.busUp = true ∧ stopGrant.sgFromHalt = false ∧ stopGrant.latched.any = false ∧
      stopGrant.vccInTolerance = true) ∧
    stopGrantFromHalt.sgFromHalt = true ∧
    ({ stopGrantFromHalt with latched := { Latched.empty with smi := true } } : State).latched.any = true := by decide

theorem witness_StpclkEdgesInWorking :
    again.running = true ∧ again.pm = .working ∧ again.pins.stpclk = false ∧ asked.pins.stpclk = true ∧
    (on again [.stpclkAssert .pLvl2]).inputs = .stpclkAssert .pLvl2 :: [] ∧
    (on asked [.stpclkDeassert]).inputs = .stpclkDeassert :: [] := by decide

/-- ACPI C2 or throttling; ACPI S1; from Halt the cause does not matter; woken, in S1 too. -/
theorem witness_NorthbridgeConnectEntersProbe :
    (on stopGrantOff [.connectAssert]).inputs = .connectAssert :: [] ∧ stopGrantOff.running = true ∧
    stopGrantOff.conn = .disconnected ∧ stopGrantOff.pm = Resting.stopGrant.toPower ∧ stopGrantOff.wake = false ∧
    stopGrantOff.pins.connect = false ∧ stopGrantOff.env.stpclkCause ≠ .sleepS1 ∧
    haltOff.pm = Resting.halt.toPower ∧ haltOff.conn = .disconnected ∧
    ({ stopGrantOff with env := { stopGrantOff.env with stpclkCause := .sleepS1 } } : State).env.stpclkCause = .sleepS1 ∧
    (stopGrantOwed.wake = true ∧ stopGrantOwed.pm = Resting.stopGrant.toPower ∧ stopGrantOwed.conn = .disconnected ∧
      stopGrantOwed.pins.connect = false ∧
      gives (step (on { stopGrantOwed with env := { stopGrantOwed.env with stpclkCause := .sleepS1 } } [.connectAssert]))
        (fun t => t.pm == .stopGrant && t.conn == .connectPending1) = true) := by
  decide

theorem witness_ProbeIsAnswered :
    (on halt [.probe 3]).inputs = .probe 3 :: [] ∧ halt.running = true ∧ halt.conn = .connected ∧ halt.inS1 = false ∧
    haltPending.conn ≠ .connected ∧ stopGrant.conn = .connected ∧
    ({ stopGrant with env := { stopGrant.env with stpclkCause := .sleepS1 } } : State).inS1 = true := by decide

theorem witness_ProbeDoneReturns :
    (on (probing .halt) [.probeDone]).inputs = .probeDone :: [] ∧ (probing .halt).running = true ∧
    (probing .halt).pm = .probe ∧ (servicing .stopGrant).pm = .probe ∧ (servicing .stopGrant).deferred = [] ∧
    (let waiting := { servicing .halt with deferred := [.event .nmi 0] }
     waiting.running = true ∧ waiting.pm = .probe ∧ waiting.deferred ≠ []) := by decide

/-- Accepted to the picosecond. -/
theorem witness_DisconnectNeedsInvitation :
    (on halt [.connectDeassert]).inputs = .connectDeassert :: [] ∧ halt.running = true ∧ halt.conn = .connected ∧
    halt.pins.connect = true ∧ halt.discReq = true ∧ halt.disconnectEnabled = true ∧ halt.env.probeOutstanding = false ∧
    halt.env.dataMoving = false ∧ halt.env.nbReset = false ∧ (0 + 8 * halt.times.period ≤ 48000) := by decide

theorem witness_ProcessorAcceptsDisconnect :
    ((on haltPending [.step false]).ownStepNext [] ∧ (on haltPending [.step true]).ownStepNext [] ∧
      (on haltPending []).ownStepNext []) ∧ haltPending.running = true ∧ haltPending.conn = .disconnectPending ∧ haltPending.pm = .halt ∧ haltPending.clkCtl = 0x20031223#64 ∧
    ({ stopGrant with conn := .disconnectPending } : State).pm = .stopGrant := by decide

theorem witness_ProcessorStartsConnect :
    ((on stopGrantOwed [.step false]).ownStepNext [] ∧ (on stopGrantOwed [.step true]).ownStepNext [] ∧
      (on stopGrantOff []).ownStepNext []) ∧ stopGrantOwed.running = true ∧
    stopGrantOwed.conn = .disconnected ∧ stopGrantOwed.wake = true ∧ stopGrantOff.conn = .disconnected ∧
    stopGrantOff.wake = false := by decide

theorem witness_ClkfwdrstOrder :
    ((on (connecting1 stopGrant true) [.clkfwdrstDeassert]).inputs = .clkfwdrstDeassert :: [] ∧
      (connecting1 stopGrant true).running = true ∧ (connecting1 stopGrant true).conn = .connectPending1 ∧
      (connecting1 stopGrant true).pins.clkfwdrst = true ∧ (connecting1 stopGrant true).pins.connect = true ∧
      (connecting1 stopGrant false).pins.connect = false) ∧
    ((on haltPending [.clkfwdrstAssert]).inputs = .clkfwdrstAssert :: [] ∧ haltPending.running = true ∧
      haltPending.pins.clkfwdrst = false ∧ haltPending.conn ≠ .disconnected ∧ haltPending.conn ≠ .connectPending1 ∧
      ({ haltOff with pins := { haltOff.pins with clkfwdrst := false } } : State).conn = .disconnected) := by decide

/-- The last moment at which the forwarded clocks may start; woken from Halt, from Stop Grant with its cycle owed, from
Stop Grant without, entered from Working and from Halt, with something latched and with nothing; not woken. -/
theorem witness_ForwardClocksComplete :
    (on (due (connecting haltOff)) [.fwdclkStart]).inputs = .fwdclkStart :: [] ∧ (due (connecting haltOff)).running = true ∧
    (due (connecting haltOff)).conn = .connectPending2 ∧ (due (connecting haltOff)).times.clkfwdrstAt = some 0 ∧
    (due (connecting haltOff)).times.now ≤ 0 + 3 * (due (connecting haltOff)).times.period ∧
    ((connecting haltOff).wake = true ∧ (connecting haltOff).pm = .halt) ∧
    ((connecting stopGrantOwed).wake = true ∧ (connecting stopGrantOwed).pm = .stopGrant ∧
      (connecting stopGrantOwed).oweSg = true) ∧
    ((connecting stopGrantOff).oweSg = false ∧ (connecting stopGrantOff).sgFromHalt = false) ∧
    (({ connecting stopGrantOff with sgFromHalt := true } : State).sgFromHalt = true ∧
      (connecting stopGrantOff).latched.any = false ∧
      ({ connecting stopGrantOff with latched := { Latched.empty with nmi := true } } : State).latched.any = true) ∧
    ((passTime (0 + 3 * 6000 - 18000) (due (connecting haltOff))).vccInTolerance = true ∧ (connecting stopGrantOff).pm ≠ .working) ∧
    ({ connecting stopGrantOff with wake := false } : State).wake = false := by decide

/-! The witnesses of the statements about states with the invariant. -/

/-- A schedule does not matter to the invariant. -/
theorem inv_on {s : State} (hi : Inv s) (is : List Input) : Inv (on s is) := hi.update hi.mem hi.organised

theorem inv_again : Inv again := by constructor <;> first | exact Caches.organised_empty | decide

theorem inv_asked : Inv asked := by constructor <;> first | exact Caches.organised_empty | decide

theorem inv_haltOff : Inv (unmasked haltOff) := by constructor <;> first | exact Caches.organised_empty | decide

theorem inv_stopGrantOff : Inv stopGrantOff := by constructor <;> first | exact Caches.organised_empty | decide

theorem inv_haltPending : Inv haltPending := by constructor <;> first | exact Caches.organised_empty | decide

theorem inv_haltOff_masked : Inv haltOff := by constructor <;> first | exact Caches.organised_empty | decide

/-- In a Stop Grant entered from Halt, both edges of STPCLK# wait for the probe. -/
def servedTwice : State := { servicing .stopGrant with sgFromHalt := true, deferred := [.stpclk false, .stpclk true] }

theorem inv_servicing : Inv (servicing .stopGrant) ∧ Inv (servicing .halt) ∧
    Inv servedTwice := by
  and_intros <;> constructor <;> first | exact Caches.organised_empty | decide

theorem inv_stopGrantOwed : Inv stopGrantOwed := by constructor <;> first | exact Caches.organised_empty | decide

theorem witness_ThrottlingSendsPairs :
    Inv again ∧ again.running = true ∧ again.pm = .working ∧ again.pins.stpclk = false ∧ again.vccInTolerance = true :=
  ⟨inv_again, by decide, by decide, by decide, by decide⟩

theorem witness_StopGrantDisconnectAndReturn :
    Inv asked ∧ asked.running = true ∧ asked.pm = .working ∧ asked.pins.stpclk = true ∧ asked.pins.connect = true ∧
    asked.env.nbDiscOnSg = true ∧ asked.env.probeOutstanding = false ∧ asked.env.dataMoving = false ∧
    asked.env.nbReset = false ∧ (passTime (3 * asked.times.period) asked).vccInTolerance = true ∧
    ∀ c, asked.times.commandAt = some c → c + 8 * asked.times.period ≤ asked.times.now :=
  ⟨inv_asked, by decide, by decide, by decide, by decide, by decide, by decide, by decide, by decide, by decide, fun c h => by cases h⟩

theorem witness_WakeUpReachesWorking :
    Inv (unmasked haltOff) ∧ (unmasked haltOff).running = true ∧ (unmasked haltOff).pm = .halt ∧
    (unmasked haltOff).conn = .disconnected ∧ (unmasked haltOff).wake = false ∧ (unmasked haltOff).pins.clkfwdrst = true ∧
    (unmasked haltOff).deliverable .intr = true ∧
    (passTime (3 * (unmasked haltOff).times.period) (unmasked haltOff)).vccInTolerance = true :=
  ⟨inv_haltOff, by decide, by decide, by decide, by decide, by decide, by decide, by decide⟩

theorem witness_ProbeRoundTrip :
    (Inv stopGrantOff ∧ Inv haltOff) ∧ stopGrantOff.running = true ∧
    (stopGrantOff.pm = Resting.stopGrant.toPower ∧ haltOff.pm = Resting.halt.toPower) ∧
    (∀ s ∈ [stopGrantOff, haltOff], s.running = true ∧ s.conn = .disconnected ∧ s.wake = false ∧ s.pins.clkfwdrst = true ∧
      s.env.stpclkCause ≠ .sleepS1 ∧ s.env.nbDiscOnSg = true ∧ s.env.nbDiscOnHalt = true ∧ s.env.dataMoving = false ∧
      8 * s.times.period ≤ 160000) :=
  ⟨⟨inv_stopGrantOff, inv_haltOff_masked⟩, by decide, by decide, by decide⟩

theorem witness_ResetActsInEveryState :
    (on stopGrantOff [.resetAssert]).inputs = .resetAssert :: [] ∧ (on stopGrantOff [.resetAssert]).pins.reset = false := by
  decide

theorem witness_NothingRunsOutsideRun :
    State.unpowered.running = false ∧ releasable.running = false ∧
    (on releasable [.nmi]).inputs = Kind.input .nmi 0 :: [] ∧ (on releasable [.step true]).inputs = .step true :: [] := by
  decide

/-- Every requirement met at its bound. -/
theorem witness_PwrokRequirements :
    (on ready [.pwrokAssert]).inputs = .pwrokAssert :: [] ∧ ready.pins.pwrok = false ∧
    gives (step (on ready [.pwrokAssert])) (fun t => t.supply == .pll) = true := by decide

/-- Every requirement met at its bound. -/
theorem witness_ResetReleaseRequirements :
    (on releasable [.resetDeassert]).inputs = .resetDeassert :: [] ∧ releasable.pins.reset = true ∧
    gives (step (on releasable [.resetDeassert])) (fun t => t.rst == .sip) = true ∧
    gives (step (on { releasable with pins := { releasable.pins with connect := false } } [.nbReset true]))
      (fun t => t.pins.connect && t.env.connectSampled) = true ∧
    refuses (step (working [.nbReset true])) .nbResetLate = true := by decide

/-- 70 R457: in reset, in the SIP and running. -/
theorem test_connect_held_in_nb_reset :
    let held := fun s : State =>
      on { s with pins := { s.pins with connect := true }, env := { s.env with nbReset := true } } [.connectDeassert]
    (held releasable).pins.connect = true ∧ refuses (step (held releasable)) .connectFellInNbReset = true ∧
    refuses (step (held { releasable with rst := .sip })) .connectFellInNbReset = true ∧
    refuses (step (held halt)) .connectFellInNbReset = true ∧
    gives (step (on { held releasable with env := releasable.env } [.connectDeassert])) (fun t => !t.pins.connect) = true := by
  decide

theorem witness_SipStartsTheMachine :
    gives (step (on { releasable with rst := .sip, part := .xp2800 } [.sipDone ⟨true, 0b0011#4⟩])) (fun t => t.running) = true := by
  decide

theorem witness_ColdStartReachesWorking :
    (1600 : Int) ≤ 1600 ∧ (1600 : Int) ≤ 1700 ∧ 3000000000 ≤ 3000000000 ∧ 1000000000 ≤ 1000000000 := by decide

theorem witness_FidValidAfterTvalid :
    releasable.supply = .pll ∧ releasable.rst ≠ .run ∧ releasable.times.pwrokAt = some 3000000000 ∧
    releasable.times.resetAt = some 0 ∧ 3000000000 + 100000 ≤ releasable.times.now ∧ 0 + 100000 ≤ releasable.times.now ∧
    (on releasable [.sampleFid]).inputs = .sampleFid :: [] := by decide

theorem witness_ClocksMustNotStop :
    again.supply ≠ .off ∧ again.pins.sysclk = true ∧ again.pins.picclk = true ∧
    (on again [.sysclk false]).inputs = .sysclk false :: [] ∧ (on again [.picclk false]).inputs = .picclk false :: [] ∧
    gives (step (on again [.sysclkPeriod 6060])) (fun t => t.times.period == 6060 && t.times.turnedAt == some 0) = true := by
  decide

/-- Exactly TBIT long, exactly TRPT after the last assertion; one picosecond short of each; disconnected. -/
theorem witness_CaptureRule :
    ((on again [.pulse .nmi 20000]).inputs = .pulse .nmi 20000 :: [] ∧ again.level .nmi = false ∧ 20000 ≤ 20000 ∧
      again.conn ≠ .disconnected) ∧
    (∀ l, ({ again with times := { again.times with nmiAt := some 0, now := 40000 } } : State).lastAssert .nmi = some l →
      l + 40000 ≤ 40000) ∧
    ((on again [.pulse .nmi 19999]).inputs = .pulse .nmi 19999 :: [] ∧ 19999 < 20000) ∧
    (∃ l, ({ again with times := { again.times with nmiAt := some 0, now := 39999 } } : State).lastAssert .nmi = some l ∧
      39999 < l + 40000) ∧
    ((on stopGrantOff [.pulse .reset 5]).inputs = .pulse .reset 5 :: [] ∧ stopGrantOff.level .reset = false ∧
      stopGrantOff.conn = .disconnected) :=
  ⟨by decide, fun l h => by cases h; decide, by decide, ⟨0, rfl, by decide⟩, by decide⟩

/-- The unpowered machine, at a die temperature that storage allows. -/
def hot : State := { State.unpowered with env := { State.unpowered.env with dieC := 95 } }

/-- A Halt in which VCC_CORE is below what Working needs. -/
def sagging : State := { halt with env := { halt.env with vccCoreMv := 1500 } }

/-- A die too hot in operation, and at power-on by either input; a pin; levels too low and too high, each by 1 mV; a supply that is
there and one that is not; a step from a state that keeps Table 6, one of them Working, the other a Halt that does not ask for it. -/
theorem witness_PlatformViolationsRefused :
    ((on again [.dieTemp 86]).inputs = .dieTemp 86 :: [] ∧ again.supply ≠ .off ∧ (85 : Int) < 86) ∧
    ((on hot [.vccCoreOn 1650]).inputs = .vccCoreOn 1650 :: [] ∧ 85 < (on hot [.vccCoreOn 1650]).env.dieC) ∧
    ((on hot [.rail .vccCore 1 1]).inputs = .rail .vccCore 1 1 :: [] ∧ hot.supply = .off ∧ (0 : Int) < 1 ∧ 85 < hot.env.dieC) ∧
    (on again [.tieOff .flush]).inputs = .tieOff .flush :: [] ∧
    ((on again [.rail .vidPullup (-501) 1]).inputs = .rail .vidPullup (-501) 1 :: [] ∧ Rail.vidPullup ≠ .fidPullupIsolated ∧
      (-501 : Int) < -500 ∧ (2200 : Int) < 2201 ∧ (3250 : Int) < 3251 ∧ again.supply ≠ .off ∧ (2249 : Int) < 2250 ∧
      (2750 : Int) < 2751 ∧ (2500 : Int) < 2501 ∧ (5250 : Int) < 5251 ∧ (3300 : Int) < 3301 ∧ (2625 : Int) < 2626) ∧
    ((again.supply = .off ↔ again.env.vccCoreMv ≤ 0) ∧ (State.unpowered.supply = .off ↔ State.unpowered.env.vccCoreMv ≤ 0)) ∧
    ((on again [.elapse 5]).vccCoreOk = true ∧ gives (step (on again [.elapse 5])) (fun t => t.pm == .working) = true ∧
      (on sagging [.elapse 5]).vccCoreOk = true ∧ gives (step (on sagging [.elapse 5])) (fun t => t.pm == .halt) = true) := by
  decide

/-- 43 R232, R241, R240, 70 R468: that die is not powered; that Halt does not end; below -0.5 V no signal pin may be. -/
theorem test_limits_hold :
    refuses (step (on hot [.vccCoreOn 1650])) .temperatureOutOfRange = true ∧
    refuses (step (on sagging [.nmi])) (.voltageOutOfRange .vccCore) = true ∧
    refuses (step (on again [.rail .fidPullup (-1000) 1])) (.voltageOutOfRange .fidPullup) = true ∧
    refuses (step (on again [.rail .fidPullup 2501 1])) (.voltageOutOfRange .fidPullup) = true := by decide

theorem witness_StrapCodes :
    (0b0010#4 ≠ 0b0011#4 ∧ 0b0100#4 ≠ 0b0011#4) ∧ (0b11110#5).toNat < 31 ∧ (0b00000#5).toNat < 31 := by decide

theorem witness_InvariantKept : Inv (on stopGrantOff [.nmi]) ∧ ∃ t, step (on stopGrantOff [.nmi]) = .next t :=
  ⟨inv_on inv_stopGrantOff _, _, rfl⟩

theorem witness_NothingExecutesOutsideWorking :
    Inv (on stopGrantOff [.nmi]) ∧ (on stopGrantOff [.nmi]).pm ≠ .working ∧
    gives (step (on stopGrantOff [.nmi])) (fun t => t.pm != .working) = true :=
  ⟨inv_on inv_stopGrantOff _, by decide, by decide⟩

theorem witness_OutputOnlyGrows : ∃ t, step (on haltPending [.step false]) = .next t := ⟨_, rfl⟩

/-- Recognised in Working; and both its edges served after a probe. -/
theorem witness_StopGrantCycleNeedsStpclk :
    (Inv (on asked [.step true]) ∧ (on asked [.step true]).cycles.count .stopGrant = 0 ∧
      gives (step (on asked [.step true])) (fun t => decide (0 < t.cycles.count .stopGrant)) = true) ∧
    Inv (on servedTwice [.probeDone]) ∧
    gives (step (on servedTwice [.probeDone])) (fun t => decide (servedTwice.cycles.count .stopGrant < t.cycles.count .stopGrant))
      = true :=
  ⟨⟨inv_on inv_asked _, by decide, by decide⟩, inv_on inv_servicing.2.2 _, by decide⟩

theorem witness_OneConnectCyclePerInvitation :
    Inv (on haltPending [.nmi]) ∧
    gives (step (on haltPending [.nmi])) (fun t => t.rst == .run && decide (t.cycles.count .connect = 1)) = true :=
  ⟨inv_on inv_haltPending _, by decide⟩

/-- In, and out. -/
theorem witness_LowPowerEntryAndExit :
    (Inv (on haltPending [.step false]) ∧ (on haltPending [.step false]).lowPower = false ∧
      gives (step (on haltPending [.step false])) (fun t => t.lowPower) = true) ∧
    (Inv (on stopGrantOwed [.step false]) ∧ (on stopGrantOwed [.step false]).lowPower = true ∧
      gives (step (on stopGrantOwed [.step false])) (fun t => !t.lowPower) = true) :=
  ⟨⟨inv_on inv_haltPending _, by decide, by decide⟩, inv_on inv_stopGrantOwed _, by decide, by decide⟩

end Sys2Proof.Tests
end

section
/-! PROOFS. What every step of the machine keeps: the log of what was sent (10_state.md R34), the supply `Off` exactly while VCC_CORE
is not applied (R36), and Table 6 (43_electrical_thermal.md R240). Then the statements of this family. -/

namespace Sys2Proof.Machine

/-! ### What the operations inside a step leave as it was -/

/-- From `s` to `t` output is only appended, and neither the supply, the reset phase, VCC_CORE's level nor the time of its excursions
changes. -/
structure Steady (s t : State) : Prop where
  sent : s.out <+: t.out := by simp
  supply : t.supply = s.supply := by simp
  rst : t.rst = s.rst := by simp
  level : t.env.vccCoreMv = s.env.vccCoreMv := by simp
  above : t.times.vccAbove = s.times.vccAbove := by simp
  below : t.times.vccBelow = s.times.vccBelow := by simp

theorem Steady.refl (s : State) : Steady s s := {}

theorem Steady.trans {s t u : State} (h : Steady s t) (h' : Steady t u) : Steady s u where
  sent := h.sent.trans h'.sent
  supply := h'.supply.trans h.supply
  rst := h'.rst.trans h.rst
  level := h'.level.trans h.level
  above := h'.above.trans h.above
  below := h'.below.trans h.below

theorem Steady.running_eq {s t : State} (h : Steady s t) : t.running = s.running := by
  simp [State.running, h.supply, h.rst]

theorem Steady.vccInTolerance_eq {s t : State} (h : Steady s t) : t.vccInTolerance = s.vccInTolerance :=
  vccInTolerance_congr h.level h.above h.below

/-! ### Events and the power machine -/

theorem steady_takeEvent (k : Kind) (m : Opaque) (s : State) : Steady s (takeEvent k m s) := {}

theorem steady_deliverLatched (s : State) : Steady s (deliverLatched s) := {}

theorem steady_leaveProbe (s : State) : Steady s (leaveProbe s) := {}

@[simp] theorem markPin_vccAbove (p : EventPin) (b : Bool) (s : State) :
    (markPin p b s).times.vccAbove = s.times.vccAbove := by cases p <;> rfl
@[simp] theorem markPin_vccBelow (p : EventPin) (b : Bool) (s : State) :
    (markPin p b s).times.vccBelow = s.times.vccBelow := by cases p <;> rfl

theorem steady_markPin (p : EventPin) (b : Bool) (s : State) : Steady s (markPin p b s) := {}

theorem steady_mark (k : Kind) (s : State) : Steady s (k.mark s) := by
  cases k with
  | init => exact steady_markPin .init true s
  | smi => exact steady_markPin .smi true s
  | nmi => exact steady_markPin .nmi true s
  | apic => exact .refl s
  | intr => exact steady_markPin .intr true s

theorem steady_noteAssert (p : EventPin) (n : Nat) (s : State) : Steady s (noteAssert p n s) := by
  cases p <;> exact ⟨List.prefix_rfl, rfl, rfl, rfl, rfl, rfl⟩

theorem steady_cancelDisconnect (s : State) : Steady s (cancelDisconnect s) where
  sent := by rw [cancelDisconnect_out]; split <;> simp

/-- A wake-up event goes on with an operation, or owes the Connect special cycle. -/
theorem steady_wakeUp {k : State → State} (hk : ∀ u, Steady u (k u)) (s : State) : Steady s (wakeUp k s) := by
  unfold wakeUp
  split
  · exact (steady_cancelDisconnect s).trans (hk _)
  · exact {}

theorem steady_finishHalt (s : State) : Steady s (finishHalt s) :=
  .trans {} (steady_deliverLatched { s with pm := .working })

theorem steady_finishOwedStopGrant (s : State) : Steady s (finishOwedStopGrant s) := {}

theorem steady_finishStopGrant (s : State) : Steady s (finishStopGrant s) := by
  unfold finishStopGrant returnToHalt
  split
  · split
    · exact .trans {} (steady_wakeUp steady_finishHalt (reenterHalt s))
    · exact {}
  · exact steady_finishHalt s

theorem steady_finishPending (s : State) : Steady s (finishPending s) := by
  unfold finishPending
  split
  · exact steady_finishHalt s
  · split
    · exact steady_finishOwedStopGrant s
    · exact steady_finishStopGrant s
  · exact .refl s
  · exact .refl s

theorem steady_stopGrantFromHalt (s : State) : Steady s (stopGrantFromHalt s) :=
  .trans {} (steady_wakeUp steady_finishOwedStopGrant { s with pm := .stopGrant, sgFromHalt := true, oweSg := true })

theorem steady_stpclkEdge (b : Bool) (s : State) : Steady s (stpclkEdge b s) := by
  unfold stpclkEdge
  split
  · exact steady_stopGrantFromHalt s
  · exact steady_wakeUp steady_finishStopGrant s
  all_goals exact .refl s

theorem steady_takeOrLatch (k : Kind) (m : Opaque) (s : State) : Steady s (takeOrLatch k m s) := by
  unfold takeOrLatch
  split
  · exact steady_takeEvent k m s
  · exact .trans {} (steady_wakeUp steady_finishHalt (latch k m s))
  · exact {}
  · exact .refl s

theorem steady_defer (d : Deferred) (s : State) : Steady s (defer d s) :=
  ⟨List.prefix_rfl, rfl, rfl, rfl, rfl, rfl⟩

theorem steady_onEvent (k : Kind) (m : Opaque) (s : State) : Steady s (onEvent k m s) := by
  unfold onEvent
  split
  · split
    · exact steady_defer _ s
    · exact (steady_leaveProbe s).trans (steady_takeOrLatch k m _)
  · exact .refl s

theorem steady_serve (s : State) (d : Deferred) : Steady s (serve s d) := by
  cases d with
  | event k m => exact steady_takeOrLatch k m s
  | stpclk b => exact .trans {} (steady_stpclkEdge b { s with pins := { s.pins with stpclk := b } })

theorem steady_serveAll (ds : List Deferred) (s : State) : Steady s (ds.foldl serve s) := by
  induction ds generalizing s with
  | nil => exact .refl s
  | cons d ds ih => exact (steady_serve s d).trans (ih _)

theorem steady_serveDeferred (s : State) : Steady s (serveDeferred s) :=
  .trans {} (steady_serveAll s.deferred
    { s with deferred := [], pins := { s.pins with stpclk := levelBefore s.deferred s.pins.stpclk } })

theorem steady_enterProbe (s : State) : Steady s (enterProbe s) := by
  unfold enterProbe
  split <;> exact {}

theorem steady_forwardClocks (s : State) : Steady s (forwardClocks s) := by
  unfold forwardClocks
  simp only
  split
  · exact .trans {} (steady_finishPending _)
  · exact {}

/-! ### Instructions -/

theorem steady_applyEffect (e : X86Effect) (s : State) : Steady s (applyEffect e s) := {}

theorem steady_exec {s t : State} (i : Instr) (h : exec i s = .next t) : Steady s t := by
  cases i
  case hlt =>
    obtain ⟨-, h⟩ := require_next.1 h
    injection h with h; subst h
    split <;> exact {}
  case cpuid => injection h with h; subst h; exact {}
  case rdmsr =>
    simp only [exec, execRdmsr] at h
    split at h <;> injection h with h <;> subst h <;> exact {}
  case wrmsr =>
    simp only [exec, execWrmsr] at h
    split at h
    · obtain ⟨-, h⟩ := require_next.1 h
      injection h with h; subst h; exact {}
    · injection h with h; subst h; exact {}

theorem steady_runForeign {s t : State} (h : runForeign s = .next t) : Steady s t := by
  unfold runForeign at h
  split at h
  · injection h with h; subst h; exact steady_applyEffect _ s
  · simp at h

theorem steady_runDecoded {s t : State} (d : Decoded) (h : runDecoded d s = .next t) : Steady s t := by
  cases d
  case ours => exact steady_exec _ h
  all_goals exact steady_runForeign h

/-- A fetch is as steady as what goes on with its byte. -/
theorem steady_fetchThen {s t : State} {k : Nat} {go : Byte → State → Result}
    (hgo : ∀ b u, go b u = .next t → Steady u t) (h : fetchThen k go s = .next t) : Steady s t := by
  rcases fetchThen_next h with rfl | ⟨b, n, h⟩
  · exact steady_applyEffect _ s
  · exact .trans {} (hgo b { s with free := n } h)

theorem steady_runInstruction {s t : State} (h : runInstruction s = .next t) : Steady s t := by
  refine steady_fetchThen (fun b u h => ?_) h
  split at h
  · exact steady_fetchThen (fun c v h => steady_runDecoded _ h) h
  · exact steady_runDecoded _ h

theorem steady_atBoundary {s t : State} (h : atBoundary s = .next t) : Steady s t := by
  unfold atBoundary at h
  split at h
  · injection h with h; subst h; exact {}
  · exact steady_runInstruction h

/-! ### What every step keeps -/

/-- From `s` to `t` what was sent is kept (10_state.md R34), and so is that the supply is `Off` exactly while VCC_CORE is not applied
(R36). -/
structure Carries (s t : State) : Prop where
  sent : s.out <+: t.out
  supply : (s.supply = .off ↔ s.env.vccCoreMv ≤ 0) → (t.supply = .off ↔ t.env.vccCoreMv ≤ 0)

/-- And so is Table 6 (43_electrical_thermal.md R240). Within a step it may be broken on the way. -/
structure Keeps (s t : State) : Prop extends Carries s t where
  table6 : s.vccCoreOk = true → t.vccCoreOk = true

theorem Carries.trans {s t u : State} (h : Carries s t) (h' : Carries t u) : Carries s u :=
  ⟨h.sent.trans h'.sent, h'.supply ∘ h.supply⟩

theorem Keeps.trans {s t u : State} (h : Keeps s t) (h' : Keeps t u) : Keeps s u :=
  ⟨h.toCarries.trans h'.toCarries, h'.table6 ∘ h.table6⟩

theorem Steady.carries {s t : State} (h : Steady s t) : Carries s t :=
  ⟨h.sent, by rw [h.supply, h.level]; exact id⟩

/-- A steady operation that does not enter Working keeps Table 6. -/
theorem Steady.keeps {s t : State} (h : Steady s t) (hp : t.pm = .working → s.pm = .working) : Keeps s t where
  toCarries := h.carries
  table6 hs := by
    by_cases hw : t.pm = .working
    · simpa [State.vccCoreOk, h.running_eq, h.vccInTolerance_eq, hw, hp hw] using hs
    · exact vccCoreOk_of_ne hw

/-- Any way into a state that is checked against Table 6 keeps it. -/
theorem Carries.comeTo {s t u : State} (h : Carries s u) (hu : comeTo u = .next t) : Keeps s t := by
  obtain ⟨hok, rfl⟩ := comeTo_next.1 hu
  exact ⟨h, fun _ => hok⟩

/-- A machine that does not run is not held to Table 6. -/
theorem Carries.keeps_of_off {s t : State} (h : Carries s t) (ht : t.running = false) : Keeps s t :=
  ⟨h, fun _ => vccCoreOk_of_off ht⟩

theorem carries_passTime (ps : Nat) (s : State) : Carries s (passTime ps s) := ⟨by simp, by simp⟩

theorem keeps_letPass {s t : State} {ps : Nat} (h : letPass ps s = .next t) : Keeps s t :=
  (carries_passTime ps s).comeTo h

/-- An answer that is given is the state answered. -/
theorem Keeps.of_next {s t u : State} (h : (.next u : Result) = .next t) (hu : Keeps s u) : Keeps s t := by
  injection h with h; exact h ▸ hu

/-! ### Operations that do not enter Working -/

theorem leaveProbe_working {s : State} (h : (leaveProbe s).pm = .working) : s.pm = .working := by
  rw [leaveProbe_pm] at h
  split at h
  · cases hr : s.probeRet <;> simp [hr, Resting.toPower] at h
  · exact h

theorem enterProbe_working {s : State} (h : (enterProbe s).pm = .working) : s.pm = .working := by
  cases hp : s.pm <;> simp_all [enterProbe]

theorem stopGrantFromHalt_pm (s : State) : (stopGrantFromHalt s).pm = .stopGrant := by
  unfold stopGrantFromHalt wakeUp
  split <;> simp

theorem stpclkEdge_true_working {s : State} (h : (stpclkEdge true s).pm = .working) : s.pm = .working := by
  cases hp : s.pm <;> simp_all [stpclkEdge, stopGrantFromHalt_pm]

theorem recogniseStpclk_working {s : State} (h : (recogniseStpclk s).pm = .working) : s.pm = .working := by
  cases hp : s.pm <;> simp_all [recogniseStpclk, stopGrantFromHalt_pm]

/-! ### The processor's own step -/

theorem steady_recogniseStpclk (s : State) : Steady s (recogniseStpclk s) := by
  unfold recogniseStpclk
  split
  · exact {}
  · exact steady_stopGrantFromHalt s
  · exact .refl s
  · exact .refl s

theorem Keeps.refl (s : State) : Keeps s s := (Steady.refl s).keeps id

/-- Drawing a free value. -/
theorem keeps_draw (s : State) : Keeps s { s with free := s.free + 1 } := Steady.keeps {} id

theorem keeps_ownWork {s t : State} (h : ownWork s = .next t) : Keeps s t := by
  unfold ownWork at h
  split at h
  · split at h
    · exact .of_next h (Steady.keeps {} id)
    · refine .of_next h ?_
      split
      · exact Steady.keeps {} id
      · exact .refl s
    · split at h
      · rename_i hp
        exact (steady_atBoundary h).keeps fun _ => by simpa using hp
      · exact .of_next h (.refl s)
    all_goals exact .of_next h (.refl s)
  · exact .of_next h (.refl s)

theorem keeps_ownStep {s t : State} {b : Bool} (h : ownStep b s = .next t) : Keeps s t := by
  unfold ownStep at h
  split at h
  · exact .of_next h ((steady_recogniseStpclk s).keeps recogniseStpclk_working)
  · exact keeps_ownWork h

theorem keeps_ownStepFree {s t : State} (h : ownStepFree s = .next t) : Keeps s t := by
  unfold ownStepFree at h
  split at h
  · exact (keeps_draw s).trans (keeps_ownStep h)
  · exact keeps_ownWork h

/-! ### Pins and events -/

theorem keeps_markPin (p : EventPin) (b : Bool) (s : State) : Keeps s (markPin p b s) :=
  (steady_markPin p b s).keeps (by simp)

/-- An event is checked against Table 6 when it has been taken. -/
theorem keeps_event {s t : State} (k : Kind) (m : Opaque) (h : onInput (k.input m) s = .next t) : Keeps s t := by
  rw [onInput_kind] at h
  exact ((steady_mark k s).trans (steady_onEvent _ _ _)).carries.comeTo h

theorem keeps_onStpclkAssert {s t : State} {c : StpclkCause} (h : onStpclkAssert c s = .next t) : Keeps s t := by
  obtain ⟨-, h⟩ := require_next.1 h
  have hm : Keeps s (markPin .stpclk true { s with env := { s.env with stpclkCause := c } }) := Steady.keeps {} id
  refine .of_next h ?_
  split
  · split
    · exact hm.trans ((steady_defer _ _).keeps id)
    · exact hm.trans (((steady_leaveProbe _).trans (steady_stpclkEdge _ _)).keeps
        (leaveProbe_working ∘ stpclkEdge_true_working))
  · exact hm

theorem keeps_onStpclkDeassert {s t : State} (h : onStpclkDeassert s = .next t) : Keeps s t := by
  obtain ⟨-, h⟩ := require_next.1 h
  have hm := keeps_markPin .stpclk false s
  have hl := hm.trans ((steady_leaveProbe (markPin .stpclk false s)).keeps leaveProbe_working)
  split at h
  · split at h
    · exact .of_next h (hm.trans ((steady_defer _ _).keeps id))
    · simp only at h
      split at h
      · obtain ⟨-, h⟩ := require_next.1 h
        exact (hl.toCarries.trans (steady_stpclkEdge _ _).carries).comeTo h
      all_goals exact .of_next h hl
  · exact .of_next h hm

theorem carries_resetEffect (s : State) : Carries s (resetEffect s) := ⟨List.prefix_rfl, id⟩

theorem keeps_onResetAssert {s t : State} (h : onResetAssert s = .next t) : Keeps s t :=
  .of_next (require_next.1 h).2 ((carries_resetEffect s).keeps_of_off (by simp [State.running, resetEffect]))

theorem keeps_onResetDeassert {s t : State} (h : onResetDeassert s = .next t) : Keeps s t := by
  simp only [onResetDeassert, require_next] at h
  obtain ⟨-, -, -, h⟩ := h
  exact .of_next h (Carries.keeps_of_off ⟨List.prefix_rfl, id⟩ (by simp [State.running]))

theorem keeps_onRelease {s t : State} {p : EventPin} (h : onRelease p s = .next t) : Keeps s t := by
  cases p
  case stpclk => exact keeps_onStpclkDeassert h
  case reset => exact keeps_onResetDeassert h
  case flush => exact .of_next h (.refl s)
  all_goals exact .of_next h (keeps_markPin _ _ s)

theorem keeps_onAssertPin {s t : State} {p : EventPin} (h : onAssertPin p s = .next t) : Keeps s t := by
  cases p
  case stpclk => exact keeps_onStpclkAssert h
  case reset => exact keeps_onResetAssert h
  case init => exact keeps_event .init 0 h
  case smi => exact keeps_event .smi 0 h
  case nmi => exact keeps_event .nmi 0 h
  case intr => exact keeps_event .intr 0 h
  case a20m => exact .of_next h (keeps_markPin _ _ s)
  case ignne => exact .of_next h (keeps_markPin _ _ s)
  case flush => simp [onAssertPin, onTieOff] at h

theorem keeps_noteAssert (p : EventPin) (n : Nat) (s : State) : Keeps s (noteAssert p n s) :=
  (steady_noteAssert p n s).keeps (by cases p <;> exact id)

theorem keeps_seenPulse {s t : State} {p : EventPin} {d : Nat} (h : seenPulse p d s = .next t) : Keeps s t := by
  obtain ⟨u, hu, h⟩ := andThen_next.1 h
  obtain ⟨v, hv, h⟩ := andThen_next.1 h
  obtain ⟨w, hw, h⟩ := andThen_next.1 h
  exact (keeps_letPass hu).trans <| (keeps_onAssertPin hv).trans <| (keeps_noteAssert p _ v).trans <|
    (keeps_letPass hw).trans (keeps_onRelease h)

theorem keeps_onPulse {s t : State} {p : EventPin} {d : Nat} (h : onPulse p d s = .next t) : Keeps s t := by
  obtain ⟨-, h⟩ := require_next.1 h
  split at h
  · exact keeps_seenPulse h
  · split at h
    · exact (keeps_draw s).trans (keeps_seenPulse h)
    · exact (keeps_draw s).trans ((keeps_noteAssert p _ _).trans (keeps_letPass h))

theorem keeps_onSpeculate {s t : State} {c : Caches} (h : onSpeculate c s = .next t) : Keeps s t := by
  refine .of_next h ?_
  split
  · exact Steady.keeps {} id
  · exact .refl s

/-! ### The connect machine -/

theorem keeps_onConnectDeassert {s t : State} (h : onConnectDeassert s = .next t) : Keeps s t := by
  simp only [onConnectDeassert, require_next] at h
  obtain ⟨-, -, h⟩ := h
  split at h
  · split at h
    · simp only [require_next] at h
      obtain ⟨-, -, -, -, h⟩ := h
      exact .of_next h (Steady.keeps {} leaveProbe_working)
    all_goals simp at h
  · exact .of_next h (Steady.keeps {} id)

theorem keeps_sampleConnect (s : State) : Keeps s (sampleConnect s) := by
  unfold sampleConnect
  split
  · exact Steady.keeps {} id
  · exact .refl s

theorem keeps_onConnectAssert {s t : State} (h : onConnectAssert s = .next t) : Keeps s t := by
  obtain ⟨-, h⟩ := require_next.1 h
  have hc : Keeps s { s with pins := { s.pins with connect := true } } := Steady.keeps {} id
  have hr : Keeps s (raiseProcrdy { s with pins := { s.pins with connect := true } }) := Steady.keeps {} id
  split at h
  · split at h
    · split at h
      · exact .of_next h hr
      · exact .of_next (require_next.1 h).2 (hr.trans ((steady_enterProbe _).keeps enterProbe_working))
    · exact .of_next h hc
    · exact .of_next h hc
    · exact .of_next h hc
    · simp at h
  · exact .of_next h (hc.trans (keeps_sampleConnect _))

theorem keeps_onClkfwdrstAssert {s t : State} (h : onClkfwdrstAssert s = .next t) : Keeps s t := by
  obtain ⟨-, h⟩ := require_next.1 h
  split at h
  · exact .of_next (require_next.1 h).2 (Steady.keeps {} id)
  · exact .of_next h (Steady.keeps {} id)

theorem keeps_onClkfwdrstDeassert {s t : State} (h : onClkfwdrstDeassert s = .next t) : Keeps s t := by
  obtain ⟨-, h⟩ := require_next.1 h
  split at h
  · simp only [require_next] at h
    obtain ⟨-, -, h⟩ := h
    exact .of_next h (Steady.keeps {} id)
  · exact .of_next h (Steady.keeps {} id)

theorem keeps_onFwdclkStart {s t : State} (h : onFwdclkStart s = .next t) : Keeps s t := by
  obtain ⟨-, h⟩ := require_next.1 h
  split at h
  · simp at h
  · simp only [require_next] at h
    exact ((carries_passTime _ s).trans (steady_forwardClocks _).carries).comeTo h.2

theorem keeps_onProbe {s t : State} {p : Opaque} (h : onProbe p s = .next t) : Keeps s t := by
  simp only [onProbe, require_next] at h
  obtain ⟨-, -, h⟩ := h
  exact .of_next h (Steady.keeps {} id)

theorem keeps_onProbeDone {s t : State} (h : onProbeDone s = .next t) : Keeps s t := by
  simp only [onProbeDone] at h
  have he : Steady s { s with env := { s.env with probeOutstanding := false } } := {}
  split at h
  · exact ((he.trans (steady_leaveProbe _)).trans (steady_serveDeferred _)).carries.comeTo h
  · exact .of_next h (Steady.keeps {} id)

/-! ### Supplies, clocks, reset -/

/-- VCC_CORE is applied above 0 mV, to a machine that the ring oscillator clocks then. -/
theorem keeps_onVccCoreOn {s t : State} {mv : Int} (h : onVccCoreOn mv s = .next t) : Keeps s t := by
  obtain ⟨⟨-, hmv, -⟩, rfl⟩ := onVccCoreOn_next.1 h
  exact Carries.keeps_of_off ⟨List.prefix_rfl, fun _ => by simpa using hmv⟩ (by simp [State.running])

/-- At 0 mV or less it is removed. -/
theorem keeps_removeVccCore {s t : State} {mv : Int} (hmv : mv ≤ 0) (h : removeVccCore mv s = .next t) : Keeps s t := by
  obtain ⟨-, rfl⟩ := removeVccCore_next.1 h
  exact Carries.keeps_of_off ⟨List.prefix_rfl, fun _ => by simpa using hmv⟩ (by simp [State.running])

/-- VCC_CORE comes to a level, which may break Table 6 until time has passed. -/
theorem carries_setVccCore {s t : State} {mv : Int} (h : setVccCore mv s = .next t) : Carries s t := by
  rcases setVccCore_next h with ⟨-, -, h⟩ | ⟨-, hmv, h⟩ | ⟨hiff, rfl⟩
  · exact (keeps_onVccCoreOn h).toCarries
  · exact (keeps_removeVccCore hmv h).toCarries
  · exact ⟨List.prefix_rfl, fun _ => hiff⟩

theorem carries_setRail {s t : State} {r : Rail} {mv : Int} (h : setRail r mv s = .next t) : Carries s t := by
  cases r
  case vccCore => exact carries_setVccCore h
  case vcca =>
    injection h with h; subst h
    split
    · exact (Keeps.refl s).toCarries
    · exact ⟨List.prefix_rfl, id⟩
  all_goals exact (Keeps.of_next h (.refl s)).toCarries

theorem keeps_onRail {s t : State} {r : Rail} {mv : Int} {d : Nat} (h : onRail r mv d s = .next t) : Keeps s t := by
  obtain ⟨u, hu, h⟩ := andThen_next.1 (require_next.1 h).2
  exact ((carries_setRail hu).trans (carries_passTime d u)).comeTo h

@[simp] theorem choosePeriod_vccAbove (ps : Nat) (t : Times) : (choosePeriod ps t).vccAbove = t.vccAbove := rfl
@[simp] theorem choosePeriod_vccBelow (ps : Nat) (t : Times) : (choosePeriod ps t).vccBelow = t.vccBelow := rfl
@[simp] theorem varyPeriod_vccAbove (ps : Nat) (t : Times) : (varyPeriod ps t).vccAbove = t.vccAbove := by
  unfold varyPeriod; split <;> rfl
@[simp] theorem varyPeriod_vccBelow (ps : Nat) (t : Times) : (varyPeriod ps t).vccBelow = t.vccBelow := by
  unfold varyPeriod; split <;> rfl

theorem keeps_onSysclkPeriod {s t : State} {ps : Nat} (h : onSysclkPeriod ps s = .next t) : Keeps s t := by
  obtain ⟨-, h⟩ := require_next.1 h
  split at h
  · exact .of_next (require_next.1 h).2 (Steady.keeps {} id)
  · exact .of_next h (Steady.keeps {} id)

/-- PWROK moves a powered machine in reset to the PLL. -/
theorem keeps_onPwrokAssert {s t : State} (h : onPwrokAssert s = .next t) : Keeps s t := by
  simp only [onPwrokAssert, require_next] at h
  obtain ⟨-, hrst, hsup, -, h⟩ := h
  have hrst : s.rst = .inReset := by simp [State.resetBeforePwrok] at hrst; exact hrst.1.2
  have hsup : s.supply = .ringOsc := by simp [State.suppliesGood] at hsup; exact hsup.1.1.1
  exact .of_next h (Carries.keeps_of_off ⟨List.prefix_rfl, fun hiff => by simpa [hsup] using hiff⟩ (by simp [State.running, hrst]))

theorem keeps_onNbReset {s t : State} {b : Bool} (h : onNbReset b s = .next t) : Keeps s t := by
  unfold onNbReset at h
  split at h
  · exact .of_next (require_next.1 h).2 (Steady.keeps {} id)
  · exact .of_next h (Steady.keeps {} id)

theorem keeps_onSipDone {s t : State} {cfg : SipConfig} (h : onSipDone cfg s = .next t) : Keeps s t := by
  simp only [onSipDone, require_next] at h
  obtain ⟨-, -, -, h⟩ := h
  refine Carries.comeTo ?_ h
  exact ⟨List.prefix_rfl, id⟩

theorem keeps_onSampleFid {s t : State} (h : onSampleFid s = .next t) : Keeps s t := by
  unfold onSampleFid at h
  split at h <;> exact .of_next h (Steady.keeps {} id)

theorem keeps_onBusWrite {s t : State} {a : Addr} {b : Byte} (h : onBusWrite a b s = .next t) : Keeps s t := by
  obtain ⟨-, rfl⟩ := busMaster_next.1 h
  exact Steady.keeps {} id

theorem keeps_onBusRead {s t : State} {a : Addr} (h : onBusRead a s = .next t) : Keeps s t := by
  obtain ⟨-, rfl⟩ := busMaster_next.1 h
  exact .refl s

/-! ### Every step -/

theorem keeps_onInput {s t : State} (i : Input) (h : onInput i s = .next t) : Keeps s t := by
  cases i with
  | step => exact keeps_ownStep h
  | stpclkAssert => exact keeps_onStpclkAssert h
  | stpclkDeassert => exact keeps_onStpclkDeassert h
  | intr => exact keeps_event .intr 0 h
  | nmi => exact keeps_event .nmi 0 h
  | smi => exact keeps_event .smi 0 h
  | init => exact keeps_event .init 0 h
  | apicMsg m => exact keeps_event .apic m h
  | release => exact keeps_onRelease h
  | pulse => exact keeps_onPulse h
  | vector => exact .of_next h (Steady.keeps {} id)
  | resetAssert => exact keeps_onResetAssert h
  | resetDeassert => exact keeps_onResetDeassert h
  | nbReset => exact keeps_onNbReset h
  | pwrokAssert => exact keeps_onPwrokAssert h
  | pwrokDeassert => exact .of_next (require_next.1 (require_next.1 h).2).2 (Steady.keeps {} id)
  | sampleFid => exact keeps_onSampleFid h
  | sipDone => exact keeps_onSipDone h
  | connectDeassert => exact keeps_onConnectDeassert h
  | connectAssert => exact keeps_onConnectAssert h
  | clkfwdrstAssert => exact keeps_onClkfwdrstAssert h
  | clkfwdrstDeassert => exact keeps_onClkfwdrstDeassert h
  | fwdclkStart => exact keeps_onFwdclkStart h
  | probe => exact keeps_onProbe h
  | probeDone => exact keeps_onProbeDone h
  | command => exact .of_next (require_next.1 h).2 (Steady.keeps {} id)
  | dataMovement => exact .of_next h (Steady.keeps {} id)
  | nbEnables => exact .of_next h (Steady.keeps {} id)
  | busWrite => exact keeps_onBusWrite h
  | busRead a => exact keeps_onBusRead (a := a) h
  | a20m => exact .of_next h (keeps_markPin _ _ s)
  | ignne => exact .of_next h (keeps_markPin _ _ s)
  | tieOff => simp [onInput, onTieOff] at h
  | sysclk => exact .of_next (require_next.1 h).2 (Steady.keeps {} id)
  | sysclkPeriod => exact keeps_onSysclkPeriod h
  | picclk => exact .of_next (require_next.1 h).2 (Steady.keeps {} id)
  | supply33Good => exact .of_next h (Steady.keeps {} id)
  | supply33Lost => exact .of_next h (Steady.keeps {} id)
  | vccaGood => exact .of_next h (Steady.keeps {} id)
  | vccCoreOn => exact keeps_onVccCoreOn h
  | powerOff => exact keeps_removeVccCore (le_refl 0) h
  | rail => exact keeps_onRail h
  | dieTemp => exact .of_next (require_next.1 h).2 (Steady.keeps {} id)
  | elapse => exact keeps_letPass h
  | speculate => exact keeps_onSpeculate h

/-- Every step keeps the log, the supply's meaning and Table 6, from every state. -/
theorem keeps_step {s t : State} (h : step s = .next t) : Keeps s t := by
  cases hi : s.inputs with
  | nil => exact keeps_ownStepFree (step_nil hi ▸ h)
  | cons i is =>
    have hq : Keeps s { s with inputs := is } := Steady.keeps {} id
    exact hq.trans (keeps_onInput i (step_cons hi ▸ h))

/-! ### The limits of a rail -/

/-- A row with both limits. -/
theorem Limit.admits_between {lo hi x : Int} {nom : Option Int} :
    (⟨some lo, nom, some hi⟩ : Limit).admits x = true ↔ lo ≤ x ∧ x ≤ hi := by
  simp [Limit.admits]

namespace Electrical

/-- What each rail may carry: 43_electrical_thermal.md R238, R241, R268, 45_signals.md R341, R346, R356, in millivolts. -/
theorem railAllowed_iff (s : State) (r : Rail) (mv : Int) : railAllowed s r mv = true ↔
    match r with
    | .vccCore => -500 ≤ mv ∧ mv ≤ 2200
    | .vcca => (-500 ≤ mv ∧ mv ≤ 3250) ∧ (s.supply = .off ∨ 2250 ≤ mv ∧ mv ≤ 2750)
    | .signalPin => -500 ≤ mv ∧ mv ≤ 2200
    | .apicPin => -500 ≤ mv ∧ mv ≤ 2625
    | .fidPullup => -500 ≤ mv ∧ mv ≤ 2500
    | .fidPullupIsolated => True
    | .vidPullup => -500 ≤ mv ∧ mv ≤ 5250
    | .fsbSensePullup => -500 ≤ mv ∧ mv ≤ 3300 := by
  cases r <;>
    simp [railAllowed, absVccCore, absVcca, vcca, absPin, apicPin, fidPullup, vidPullup, fsbSensePullup, Limit.admits_between]

/-- The minimum is that of every rail whose level reaches a pin. -/
theorem railAllowed_min {s : State} {r : Rail} {mv : Int} (h : railAllowed s r mv = true) (hr : r ≠ .fidPullupIsolated) :
    -500 ≤ mv := by
  rw [railAllowed_iff] at h
  cases r <;> simp at h hr <;> omega

end Electrical

/-- A rail past its limits is refused. -/
theorem onRail_refused {s : State} {r : Rail} {mv : Int} (d : Nat) (h : ¬ Electrical.railAllowed s r mv = true) :
    onRail r mv d s = .refused (.voltageOutOfRange r) := by
  simp [onRail, h]

/-- A die hotter than in operation is refused while powered. -/
theorem onDieTemp_refused {s : State} {c : Int} (hs : s.supply ≠ .off) (hc : 85 < c) :
    onDieTemp c s = .refused .temperatureOutOfRange := by
  have : Thermal.inOperation c = false := decide_eq_false (not_le.2 hc)
  simp [onDieTemp, hs, this]

/-- VCC_CORE is applied to no die hotter than in operation. -/
theorem onVccCoreOn_cool {s t : State} {mv : Int} (h : onVccCoreOn mv s = .next t) : s.env.dieC ≤ 85 := by
  obtain ⟨⟨-, -, -, -, -, hc⟩, -⟩ := onVccCoreOn_next.1 h
  exact hc

/-- A rail that brings VCC_CORE to an unpowered machine applies it. -/
theorem onRail_vccCore_cool {s t : State} {mv : Int} {d : Nat} (hs : s.supply = .off) (hmv : 0 < mv)
    (h : onRail .vccCore mv d s = .next t) : s.env.dieC ≤ 85 := by
  obtain ⟨u, hu, -⟩ := andThen_next.1 (require_next.1 h).2
  have hu : setVccCore mv s = .next u := hu
  rcases setVccCore_next hu with ⟨-, -, hon⟩ | ⟨hne, -⟩ | ⟨hiff, -⟩
  · exact onVccCoreOn_cool hon
  · exact absurd hs hne
  · exact absurd (hiff.1 hs) (by omega)

/-! ### The start states -/

/-- The state after reset has the invariant: it is connected, in Working, and nothing is owed. -/
theorem inv_reset : Inv State.reset := by
  apply Inv.of_connected
  case hcache => exact Caches.organised_empty
  all_goals decide

/-- So has the unpowered machine, whose fields hold the same "none" (log entry 70). -/
theorem inv_unpowered : Inv State.unpowered := by
  apply Inv.of_connected
  case hcache => exact Caches.organised_empty
  all_goals decide

end Sys2Proof.Machine

namespace Sys2Proof.Proofs

open Sys2Proof.Machine

/-- Settles O51: the refusals by the handlers' conditions, the two invariants by what every step keeps. -/
theorem platformViolationsRefused : Obligations.PlatformViolationsRefused := by
  unfold Obligations.PlatformViolationsRefused
  intro s is
  refine ⟨fun c hi hs hc => ?_, fun mv t hi hc h => ?_, fun mv d t hi hs hmv hc h => ?_, fun x hi => ?_,
    fun r mv d hi hpast => ?_, fun t hok h => (keeps_step h).table6 hok, fun t hiff h => (keeps_step h).supply hiff⟩
  · rw [step_cons hi]
    exact onDieTemp_refused (s := { s with inputs := is }) hs hc
  · rw [step_cons hi] at h
    exact absurd (onVccCoreOn_cool h) (not_le.2 hc)
  · rw [step_cons hi] at h
    exact absurd (onRail_vccCore_cool (s := { s with inputs := is }) hs hmv h) (not_le.2 hc)
  · rw [step_cons hi]
    rfl
  · rw [step_cons hi]
    refine onRail_refused d fun hin => ?_
    have hmin := Electrical.railAllowed_min hin
    rw [Electrical.railAllowed_iff] at hin
    rcases hpast with ⟨hr, hlow⟩ | ⟨rfl | rfl, hhigh⟩ | ⟨rfl, hhigh | ⟨hon, hout⟩⟩ | ⟨rfl, hhigh⟩ | ⟨rfl, hhigh⟩ |
      ⟨rfl, hhigh⟩ | ⟨rfl, hhigh⟩
    · exact absurd (hmin hr) (by omega)
    iterate 3 · simp at hin; omega
    · simp [hon] at hin; omega
    all_goals simp at hin; omega

/-- Settles O57: every operation inside a step, and so the step, only appends. -/
theorem outputOnlyGrows : Obligations.OutputOnlyGrows := by
  unfold Obligations.OutputOnlyGrows
  intro s t h
  obtain ⟨es, hes⟩ := (keeps_step h).sent
  exact ⟨es, hes.symm⟩

/-- Settles O55: Table 6 holds after reset because VCC_CORE is nominal, and of the unpowered machine because it does not run. -/
theorem invariantAtReset : Obligations.InvariantAtReset :=
  ⟨⟨inv_reset, vccCoreOk_of_tolerance (vccInTolerance_of_dc rfl)⟩, inv_unpowered, vccCoreOk_of_off rfl⟩

end Sys2Proof.Proofs
end

section
/-! PROOFS. Memory (20_memory.md): the bytes of MemRead and MemWrite (R80), the physical address bit by bit (R91, 92 D6 and D7), the
canonical form, and what another bus master may do (R93). Then the statements of this family. -/

namespace Sys2Proof.Machine

/-! ### The canonical form -/

/-- A byte that is read is listed. -/
theorem Memory.mem_of_read {m : Memory} {x : Nat} {b : Byte} (h : m.read x = some b) : (x, b) ∈ m := by
  induction m with
  | nil => simp at h
  | cons c m ih =>
    unfold Memory.read at h
    split at h
    · next hc =>
      cases h
      exact List.mem_cons.2 (.inl (Prod.ext hc.symm rfl))
    · exact List.mem_cons_of_mem c (ih h)

/-- In canonical form the bytes listed are the bytes read. -/
theorem Memory.mem_iff_read {m : Memory} (hm : m.wf = true) (x : Nat) (b : Byte) : (x, b) ∈ m ↔ m.read x = some b := by
  refine ⟨fun h => ?_, Memory.mem_of_read⟩
  rw [Memory.wf_iff_pairwise] at hm
  induction m with
  | nil => simp at h
  | cons c m ih =>
    obtain ⟨hfirst, hm⟩ := List.pairwise_cons.1 hm
    rcases List.mem_cons.1 h with rfl | h
    · simp [Memory.read]
    · have hne : c.1 ≠ x := (hfirst _ h).ne
      simpa [Memory.read, hne] using ih hm h

/-! ### The physical address, bit by bit -/

/-- The mask of A20M# clears bit 20 and no other bit. -/
theorem getLsbD_and_not_bit20 (a : Addr) (i : Nat) :
    (a &&& ~~~(1#64 <<< 20)).getLsbD i = (!(i == 20) && a.getLsbD i) := by
  rw [← BitVec.twoPow_eq, BitVec.getLsbD_and, BitVec.getLsbD_not, BitVec.getLsbD_twoPow]
  by_cases hi : i < 64
  · simp [hi, Bool.and_comm, beq_eq_decide, eq_comm]
  · simp [BitVec.getLsbD_of_ge a i (not_lt.1 hi)]

/-- Bit `i` of a physical address: it is within `PA_WIDTH`, and bit 20 is 0 while A20M# is asserted. -/
theorem testBit_phys (a20m : Bool) (a : Addr) (i : Nat) :
    (phys a20m a).testBit i = (decide (i < Config.paWidth) && !(a20m && i == 20) && a.toNat.testBit i) := by
  unfold phys
  rw [narrow_eq, Nat.testBit_mod_two_pow, Bool.and_assoc]
  congr 1
  cases a20m
  · simp
  · exact getLsbD_and_not_bit20 a i

/-- Below 2^33 `PA_WIDTH` takes no bit away. -/
theorem testBit_phys_of_lt {a : Addr} (h : a.toNat < 2 ^ 33) (a20m : Bool) (i : Nat) :
    (phys a20m a).testBit i = (!(a20m && i == 20) && a.toNat.testBit i) := by
  rw [testBit_phys]
  by_cases hi : i < Config.paWidth
  · simp [hi]
  · have hlt : a.toNat < 2 ^ i := h.trans_le (Nat.pow_le_pow_right (by decide) (by have := paWidth_ge; omega))
    simp [Nat.testBit_lt_two_pow hlt]

/-- The bits below bit 20 are the address's own, whatever A20M# and `PA_WIDTH` are. -/
theorem phys_mod (a20m : Bool) (a : Addr) : phys a20m a % 2 ^ 20 = a.toNat % 2 ^ 20 := by
  have hwidth := paWidth_ge
  refine Nat.eq_of_testBit_eq fun i => ?_
  rw [Nat.testBit_mod_two_pow, Nat.testBit_mod_two_pow, testBit_phys]
  by_cases hi : i < 20
  · have hne : (i == 20) = false := beq_false_of_ne hi.ne
    simp [hne, show i < Config.paWidth by omega]
  · simp [hi]

/-- Within the second Mbyte A20M# takes the address to the first one. -/
theorem phys_true_of_second_mbyte {a : Addr} (hlow : 2 ^ 20 ≤ a.toNat) (hhigh : a.toNat < 2 ^ 21) :
    phys true a = a.toNat - 2 ^ 20 := by
  have hlt : phys true a < 2 ^ 20 := by
    refine Nat.lt_pow_two_of_testBit _ fun i hi => ?_
    rw [testBit_phys]
    rcases hi.eq_or_lt with rfl | hi
    · simp
    · have : a.toNat < 2 ^ i := hhigh.trans_le (Nat.pow_le_pow_right (by decide) hi)
      simp [Nat.testBit_lt_two_pow this]
  have := phys_mod true a
  omega

/-! ### MemRead and MemWrite, byte by byte -/

/-- The address of byte `k + 1` is that of byte `k` of an access one address up. -/
theorem add_ofNat_succ (a : Addr) (k : Nat) : a + BitVec.ofNat 64 (k + 1) = a + 1 + BitVec.ofNat 64 k := by
  rw [BitVec.add_assoc, Nat.add_comm, BitVec.ofNat_add]
  rfl

/-- Byte `k + 1` of a value is byte `k` of what is left without byte 0. -/
theorem div_pow_succ (v k : Nat) : v / 256 ^ (k + 1) = v / 256 / 256 ^ k := by
  rw [Nat.pow_succ', Nat.div_div_eq_div_mul]

/-- A MemRead of one byte more: the first byte, and the rest above it. -/
theorem memRead_succ {m : Memory} {a20m : Bool} {a : Addr} {n w : Nat} : memRead m a20m a (n + 1) = some w ↔
    ∃ b v, m.read (phys a20m a) = some b ∧ memRead m a20m (a + 1) n = some v ∧ b.toNat + 256 * v = w := by
  rw [memRead]
  split
  · next b v hb hv => rw [hb, hv]; simp
  · next hnone => exact ⟨nofun, fun ⟨b, v, hb, hv, _⟩ => (hnone b v hb hv).elim⟩

/-- What a MemRead answers, exactly: the value of so many bytes whose every byte memory lists. -/
theorem memRead_eq_some {m : Memory} {a20m : Bool} {a : Addr} {n w : Nat} : memRead m a20m a n = some w ↔
    w < 256 ^ n ∧ ∀ k < n, m.read (phys a20m (a + BitVec.ofNat 64 k)) = some (BitVec.ofNat 8 (w / 256 ^ k)) := by
  induction n generalizing a w with
  | zero => simp [memRead, eq_comm]
  | succ n ih =>
    simp only [memRead_succ, ih, Nat.forall_lt_succ_left, ← add_ofNat_succ, div_pow_succ, BitVec.add_zero, Nat.pow_zero,
      Nat.div_one]
    have hpow : 256 ^ (n + 1) = 256 * 256 ^ n := Nat.pow_succ'
    constructor
    · rintro ⟨b, v, hb, ⟨hlt, hv⟩, rfl⟩
      have hbyte : b.toNat < 256 := b.isLt
      have hrest : (b.toNat + 256 * v) / 256 = v := by omega
      have hfirst : BitVec.ofNat 8 (b.toNat + 256 * v) = b := by
        apply BitVec.eq_of_toNat_eq
        rw [BitVec.toNat_ofNat]
        omega
      rw [hrest, hfirst]
      exact ⟨by omega, hb, hv⟩
    · rintro ⟨hlt, hb, hv⟩
      refine ⟨_, w / 256, hb, ⟨by omega, hv⟩, ?_⟩
      rw [BitVec.toNat_ofNat]
      omega

/-- A MemRead answers when memory lists the bytes. -/
theorem memRead_answers_iff {m : Memory} {a20m : Bool} {a : Addr} {n : Nat} : (∃ w, memRead m a20m a n = some w) ↔
    ∀ k < n, ∃ b, m.read (phys a20m (a + BitVec.ofNat 64 k)) = some b := by
  refine ⟨fun ⟨w, h⟩ k hk => ⟨_, (memRead_eq_some.1 h).2 k hk⟩, fun h => ?_⟩
  induction n generalizing a with
  | zero => exact ⟨0, rfl⟩
  | succ n ih =>
    simp only [Nat.forall_lt_succ_left, BitVec.add_zero] at h
    obtain ⟨⟨b, hb⟩, hrest⟩ := h
    obtain ⟨v, hv⟩ := ih fun k hk => add_ofNat_succ a k ▸ hrest k hk
    exact ⟨_, memRead_succ.2 ⟨b, v, hb, hv, rfl⟩⟩

/-- Within 2^20 bytes no two are one physical address: their addresses differ below bit 20, which A20M# does not reach. -/
theorem phys_add_ne (a20m : Bool) (a : Addr) {k : Nat} (hpos : 0 < k) (hk : k < 2 ^ 20) :
    phys a20m (a + BitVec.ofNat 64 k) ≠ phys a20m a := by
  intro h
  have h := congrArg (· % 2 ^ 20) h
  simp only [phys_mod, BitVec.toNat_add, BitVec.toNat_ofNat] at h
  omega

/-- A MemWrite leaves at each of its addresses the value's byte. -/
theorem memWrite_read (m : Memory) (a20m : Bool) (a : Addr) (n v : Nat) (hn : n ≤ 2 ^ 20) :
    ∀ k < n, (memWrite m a20m a n v).read (phys a20m (a + BitVec.ofNat 64 k)) = some (BitVec.ofNat 8 (v / 256 ^ k)) := by
  induction n generalizing m a v with
  | zero => nofun
  | succ n ih =>
    unfold memWrite
    rw [Nat.forall_lt_succ_left]
    constructor
    · rw [memWrite_read_other]
      · simp
      · intro k hk
        rw [← add_ofNat_succ]
        simpa using phys_add_ne a20m a k.succ_pos (by omega)
    · simpa only [← add_ofNat_succ, div_pow_succ] using ih (m.write (phys a20m a) (BitVec.ofNat 8 v)) (a + 1) (v / 256) (by omega)

/-- Dropping bytes from `n` on leaves byte `k` below them. -/
theorem ofNat_mod_pow_div_pow (v : Nat) {k n : Nat} (hk : k < n) :
    BitVec.ofNat 8 (v % 256 ^ n / 256 ^ k) = BitVec.ofNat 8 (v / 256 ^ k) := by
  have hsplit : 256 ^ n = 256 ^ k * 256 ^ (n - k) := by rw [← Nat.pow_add, Nat.add_sub_of_le hk.le]
  have hdvd : 256 ∣ 256 ^ (n - k) := dvd_pow_self 256 (Nat.sub_ne_zero_of_lt hk)
  apply BitVec.eq_of_toNat_eq
  rw [hsplit, Nat.mod_mul_right_div_self, BitVec.toNat_ofNat, BitVec.toNat_ofNat, Nat.mod_mod_of_dvd _ hdvd]

/-- The value written reads back. -/
theorem memRead_memWrite (m : Memory) (a20m : Bool) (a : Addr) (n v : Nat) (hn : n ≤ 2 ^ 20) :
    memRead (memWrite m a20m a n v) a20m a n = some (v % 256 ^ n) := by
  refine memRead_eq_some.2 ⟨Nat.mod_lt _ (Nat.pow_pos (by decide)), fun k hk => ?_⟩
  rw [memWrite_read m a20m a n v hn k hk, ofNat_mod_pow_div_pow v hk]

/-! ### Speculative loads -/

/-- A code byte after a speculative load was held before, or is memory's where A20M# lets it be addressed (20_memory.md R91). -/
theorem onSpeculate_code {s t : State} {c : Caches} {x : Nat} {b : Byte} (h : onSpeculate c s = .next t)
    (hb : t.cache.code.read x = some b) : s.cache.code.read x = some b ∨ (visible s.pins.a20m s.mem).read x = some b := by
  cases h
  split at hb
  · rw [Caches.fit_code] at hb
    have hfrom := (List.mem_filter.1 (Memory.mem_of_read hb)).2
    simpa [or_comm] using hfrom
  · exact .inl hb

/-! ### Another bus master -/

/-- ACPI S1 does not depend on the inputs to come. -/
@[simp] theorem inS1_inputs (s : State) (is : List Input) : ({ s with inputs := is } : State).inS1 = s.inS1 := by
  simp [State.inS1]

/-- With the conditions met, its access takes effect (20_memory.md R93). -/
theorem busMaster_completes {s : State} (k : State → State)
    (h : s.running = true → s.conn = .connected ∧ s.inS1 = false ∧ ¬(s.env.probeDue = true ∧ s.pm ≠ .working)) :
    busMaster k s = .next (k s) := by
  refine busMaster_next.2 ⟨fun hr => ?_, rfl⟩
  obtain ⟨hc, hs, hd⟩ := h hr
  refine ⟨hc, hs, ?_⟩
  by_cases hp : s.pm = .working
  · exact .inl hp
  · exact .inr (Bool.eq_false_iff.2 fun hdue => hd ⟨hdue, hp⟩)

/-- Its write: one byte of memory, at an address A20M# does not mask (log entry 5). -/
theorem onBusWrite_completes {s : State} (a : Addr) (b : Byte)
    (h : s.running = true → s.conn = .connected ∧ s.inS1 = false ∧ ¬(s.env.probeDue = true ∧ s.pm ≠ .working)) :
    onBusWrite a b s = .next { s with mem := s.mem.write (narrow a) b } := busMaster_completes _ h

/-- With the bus not connected, it is refused. -/
theorem busMaster_disconnected {s : State} (k : State → State) (hr : s.running = true) (hc : s.conn ≠ .connected) :
    busMaster k s = .refused .busMasterWhileDisconnected := by
  simp [busMaster, hr, beq_false_of_ne hc]

/-- In ACPI S1 it is refused (40_power_states.md R149). -/
theorem busMaster_inS1 {s : State} (k : State → State) (hr : s.running = true) (hc : s.conn = .connected) (hs : s.inS1 = true) :
    busMaster k s = .refused .busMasterInS1 := by
  simp [busMaster, hr, hc, hs]

/-- While a probe is due it is refused. -/
theorem busMaster_unprobed {s : State} (k : State → State) (hr : s.running = true) (hc : s.conn = .connected)
    (hs : s.inS1 = false) (hdue : s.env.probeDue = true) (hp : s.pm ≠ .working) :
    busMaster k s = .refused .busMasterWithoutProbe := by
  simp [busMaster, hr, hc, hs, hdue, bne_iff_ne.2 hp]

end Sys2Proof.Machine

namespace Sys2Proof.Proofs

open Sys2Proof.Machine

/-- Settles O13, by induction on the number of bytes: what MemRead answers, and what MemWrite leaves at its addresses. -/
theorem memoryIsLittleEndian : Obligations.MemoryIsLittleEndian := by
  unfold Obligations.MemoryIsLittleEndian
  intro m a20m a n v
  exact ⟨memRead_answers_iff, fun w h => memRead_eq_some.1 h, fun hn =>
    ⟨memWrite_read m a20m a n v hn, fun x => memWrite_read_other m a20m a n v x, memRead_memWrite m a20m a n v hn⟩⟩

/-- Settles O14: such memories list the same cells, and a strictly rising list is determined by what it lists. -/
theorem canonicalMemoriesEqual : Obligations.CanonicalMemoriesEqual := by
  unfold Obligations.CanonicalMemoriesEqual
  intro m n hm hn hread
  have : Std.Antisymm fun c d : Host.Cell => c.1 < d.1 := ⟨fun _ _ h h' => absurd h h'.asymm⟩
  have : Std.Irrefl fun c d : Host.Cell => c.1 < d.1 := ⟨fun c => Nat.lt_irrefl c.1⟩
  refine ((Memory.wf_iff_pairwise m).1 hm).eq_of_mem_iff ((Memory.wf_iff_pairwise n).1 hn) fun ⟨x, b⟩ => ?_
  rw [Memory.mem_iff_read hm, Memory.mem_iff_read hn, hread]

/-- Settles O15: the physical address bit by bit, and the reads of what A20M# leaves visible. -/
theorem a20mClearsBit20 : Obligations.A20mClearsBit20 := by
  unfold Obligations.A20mClearsBit20
  refine ⟨fun a ha => ⟨narrow_of_lt a ha, fun i => ?_, fun hlow hhigh => ?_⟩,
    fun s x => ⟨read_visible _ _ _, read_visible _ _ _, fun e => ?_, fun is c t b hi h hb => ?_⟩⟩
  · rw [testBit_phys_of_lt ha]
    simp [beq_eq_decide]
  · exact phys_true_of_second_mbyte hlow (by omega)
  · rw [applyEffect_cache, Caches.read_under, Caches.fit_code]
  · rw [step_cons hi] at h
    refine (onSpeculate_code h hb).imp_right fun hvis => ?_
    rw [read_visible] at hvis
    split at hvis
    · cases hvis
    · next hides => exact ⟨Bool.eq_false_iff.2 hides, hvis⟩

/-- Settles O16: the three conditions of a bus master's access, in the order they are asked. -/
theorem busMasterNeedsConnectAndProbe : Obligations.BusMasterNeedsConnectAndProbe := by
  unfold Obligations.BusMasterNeedsConnectAndProbe
  intro s is a b i hi hinputs due
  have hS1 := inS1_inputs s is
  obtain ⟨k, hk⟩ : ∃ k, step s = busMaster k { s with inputs := is } := by
    rw [step_cons hinputs]
    rcases hi with rfl | rfl
    · exact ⟨fun s => { s with mem := s.mem.write (narrow a) b }, rfl⟩
    · exact ⟨id, rfl⟩
  refine ⟨fun hr hc => ?_, fun hr hc hs => ?_, fun hr hc hs ⟨hdue, hp⟩ => ?_, fun hok => ?_⟩
  · exact hk.trans (busMaster_disconnected k hr hc)
  · exact hk.trans (busMaster_inS1 k hr hc (hS1.trans hs))
  · exact hk.trans (busMaster_unprobed k hr hc (hS1.trans hs) hdue hp)
  · rw [← hS1] at hok
    constructor
    · rintro rfl
      exact (step_cons hinputs).trans (busMaster_completes id hok)
    · rintro rfl
      exact ⟨_, (step_cons hinputs).trans (onBusWrite_completes a b hok), Memory.read_write_same _ _ _,
        fun x hx => Memory.read_write_other _ _ hx⟩

end Sys2Proof.Proofs
end

section
/-! PROOFS. Encoding (30_encoding.md R113, R114): the decoder's graph, which says once for every byte string what the decoder answers, in
terms of the encoder; and the table word of an instruction. Then the statements of this family. -/

namespace Sys2Proof

/-! ### The decoder's graph -/

/-- What a byte string decodes to, in terms of the encoder alone: an encoding and what follows it, a first byte no encoding begins with, an
escape whose second byte is none of theirs, or a string that ends before the opcode does. -/
inductive DecodesTo : List Byte → Decoded → Prop
  | ours (i : Instr) (rest : List Byte) : DecodesTo (encode i ++ rest) (.ours i rest)
  | foreignOpcode {b : Byte} (rest : List Byte) (h : ∀ i, (encode i).head? ≠ some b) : DecodesTo (b :: rest) (.foreignOpcode b)
  | foreignEscape {b : Byte} (rest : List Byte) (h : ∀ i, (encode i).take 2 ≠ [0x0F#8, b]) :
      DecodesTo (0x0F#8 :: b :: rest) (.foreignEscape b)
  | empty : DecodesTo [] .tooShort
  | escapeAlone : DecodesTo [0x0F#8] .tooShort

/-- A byte begins no encoding exactly when it is neither HLT's opcode nor the escape. -/
theorem head_encode_ne_iff {b : Byte} : (∀ i, (encode i).head? ≠ some b) ↔ b ≠ 0xF4#8 ∧ b ≠ 0x0F#8 := by
  constructor
  · intro h
    exact ⟨fun e => h .hlt (by simp [encode, e]), fun e => h .cpuid (by simp [encode, e])⟩
  · rintro ⟨hhlt, hescape⟩ i
    cases i <;> simp [encode, hhlt.symm, hescape.symm]

/-- A byte after the escape is in no encoding exactly when it is none of the three second bytes of R113. -/
theorem take_encode_ne_iff {b : Byte} :
    (∀ i, (encode i).take 2 ≠ [0x0F#8, b]) ↔ b ≠ 0x30#8 ∧ b ≠ 0x32#8 ∧ b ≠ 0xA2#8 := by
  constructor
  · intro h
    exact ⟨fun e => h .wrmsr (by simp [encode, e]), fun e => h .rdmsr (by simp [encode, e]), fun e => h .cpuid (by simp [encode, e])⟩
  · rintro ⟨hwrmsr, hrdmsr, hcpuid⟩ i
    cases i <;> simp [encode, hwrmsr.symm, hrdmsr.symm, hcpuid.symm]

/-- Decoding an encoding gives the instruction and what follows it. -/
@[simp] theorem decode_encode_append (i : Instr) (rest : List Byte) : decode (encode i ++ rest) = .ours i rest := by
  cases i <;> rfl

/-- After the escape: the second byte is an encoding's, or the escape is foreign. -/
theorem decodesTo_decodeEscape (b : Byte) (rest : List Byte) : DecodesTo (0x0F#8 :: b :: rest) (decodeEscape b rest) := by
  unfold decodeEscape
  split_ifs with hwrmsr hrdmsr hcpuid
  · subst hwrmsr; exact .ours .wrmsr rest
  · subst hrdmsr; exact .ours .rdmsr rest
  · subst hcpuid; exact .ours .cpuid rest
  · exact .foreignEscape rest (take_encode_ne_iff.2 ⟨hwrmsr, hrdmsr, hcpuid⟩)

/-- The decoder's answer is in the graph, along the decoder's own branches. -/
theorem decodesTo_decode : ∀ bs : List Byte, DecodesTo bs (decode bs)
  | [] => .empty
  | b :: rest => by
    by_cases hhlt : b = 0xF4#8
    · subst hhlt; exact .ours .hlt rest
    · by_cases hescape : b = 0x0F#8
      · subst hescape
        match rest with
        | [] => exact .escapeAlone
        | b1 :: rest => exact decodesTo_decodeEscape b1 rest
      · simp only [decode, hhlt, hescape, if_false]
        exact .foreignOpcode rest (head_encode_ne_iff.2 ⟨hhlt, hescape⟩)

/-- The graph is the decoder's. -/
theorem decode_eq_iff {bs : List Byte} {d : Decoded} : decode bs = d ↔ DecodesTo bs d := by
  constructor
  · rintro rfl
    exact decodesTo_decode bs
  · intro h
    cases h with
    | ours i rest => exact decode_encode_append i rest
    | foreignOpcode rest h =>
      obtain ⟨hhlt, hescape⟩ := head_encode_ne_iff.1 h
      simp [decode, hhlt, hescape]
    | foreignEscape rest h =>
      obtain ⟨hwrmsr, hrdmsr, hcpuid⟩ := take_encode_ne_iff.1 h
      simp [decode, decodeEscape, hwrmsr, hrdmsr, hcpuid]
    | empty => rfl
    | escapeAlone => rfl

/-- An instruction is read exactly from its encoding and what follows it. -/
theorem decode_eq_ours_iff {bs : List Byte} {i : Instr} {rest : List Byte} :
    decode bs = .ours i rest ↔ bs = encode i ++ rest := by
  constructor
  · intro h
    cases decode_eq_iff.1 h with
    | ours => rfl
  · rintro rfl
    exact decode_encode_append i rest

/-- The bytes end too early exactly when there are none, or the escape is all there is. -/
theorem decode_eq_tooShort_iff {bs : List Byte} : decode bs = .tooShort ↔ bs = [] ∨ bs = [0x0F#8] := by
  rw [decode_eq_iff]
  constructor
  · intro h
    cases h with
    | empty => exact .inl rfl
    | escapeAlone => exact .inr rfl
  · rintro (rfl | rfl)
    · exact .empty
    · exact .escapeAlone

/-! ### The rows of the opcode table -/

/-- Each row is well formed (R113). -/
@[simp] theorem Instr.wf_eq_true : ∀ i : Instr, i.wf = true
  | .hlt => Laws.EncodingRow.hlt.1
  | .cpuid => Laws.EncodingRow.cpuid.1
  | .rdmsr => Laws.EncodingRow.rdmsr.1
  | .wrmsr => Laws.EncodingRow.wrmsr.1

/-- The longest instruction has two bytes. -/
theorem length_encode_le (i : Instr) : (encode i).length ≤ 2 := by
  cases i <;> decide

/-- The bytes of the word of at most two bytes: those bytes, then zeros. -/
theorem wordBytes_leNat {bs : List Byte} (h : bs.length ≤ 2) :
    wordBytes (8 * bs.length) (leNat bs) = bs ++ List.replicate (2 - bs.length) 0#8 := by
  match bs, h with
  | [], _ => rfl
  | [b], _ =>
    have hb := b.isLt
    simp [wordBytes, leNat, Nat.mod_eq_of_lt hb, Nat.div_eq_of_lt hb]
  | [b, c], _ =>
    have hb := b.isLt
    have hc := c.isLt
    have hword : (b.toNat + 256 * c.toNat) % 2 ^ 16 = b.toNat + 256 * c.toNat := Nat.mod_eq_of_lt (by omega)
    have hlow : BitVec.ofNat 8 (b.toNat + 256 * c.toNat) = b := BitVec.eq_of_toNat_eq (by rw [BitVec.toNat_ofNat]; omega)
    have hhigh : BitVec.ofNat 8 ((b.toNat + 256 * c.toNat) / 256) = c :=
      BitVec.eq_of_toNat_eq (by rw [BitVec.toNat_ofNat]; omega)
    simp [wordBytes, leNat, -Nat.reducePow, hword, hlow, hhigh]

/-- The table word of an instruction decodes to it. -/
theorem decodeTableWord_encode (i : Instr) : decodeTableWord (8 * i.length) (leNat (encode i)) = some i := by
  rw [decodeTableWord, Instr.length, wordBytes_leNat (length_encode_le i), decode_encode_append]
  rfl

end Sys2Proof

namespace Sys2Proof.Proofs

/-- Settles O3: the decoder's answer is one of the constructors of its graph, each of which says of the bytes what it should. -/
theorem decodeExactlyEncodings : Obligations.DecodeExactlyEncodings := by
  unfold Obligations.DecodeExactlyEncodings
  intro bs
  refine ⟨fun i rest => ?_, fun b h => ?_, fun b h => ?_, decode_eq_tooShort_iff⟩
  · rw [and_iff_right i.wf_eq_true, decode_eq_ours_iff]
  · cases decode_eq_iff.1 h with
    | foreignOpcode _ hnone => exact ⟨rfl, hnone⟩
  · cases decode_eq_iff.1 h with
    | foreignEscape _ hnone => exact ⟨rfl, hnone⟩

/-- Settles O1: the rows are the model's own, and each row's bytes are the encoding with nothing after it. -/
theorem opcodeRowsDecode : Obligations.OpcodeRowsDecode :=
  ⟨⟨rfl, decode_encode_append .hlt []⟩, ⟨rfl, decode_encode_append .wrmsr []⟩, ⟨rfl, decode_encode_append .rdmsr []⟩,
    rfl, decode_encode_append .cpuid []⟩

/-- Settles O2: the table word's bytes are the encoding followed by zeros, so it decodes as any encoding does. -/
theorem decodeOfEncode : Obligations.DecodeOfEncode :=
  fun i rest => ⟨i.wf_eq_true, decode_encode_append i rest, decodeTableWord_encode i⟩

end Sys2Proof.Proofs
end

section
/-! PROOFS. Every step keeps the invariant (Safety.lean): one lemma for each input, then the statement. -/

namespace Sys2Proof.Machine

/-! ### Every step keeps the invariant -/

theorem Inv.event {s t : State} (hi : Inv s) (k : Kind) (m : Opaque) (h : onInput (k.input m) s = .next t) : Inv t := by
  rw [onInput_kind] at h
  have hm : Inv (k.mark s) := by
    cases k with
    | init => exact hi.markPin .init true (by decide)
    | smi => exact hi.markPin .smi true (by decide)
    | nmi => exact hi.markPin .nmi true (by decide)
    | apic => exact hi
    | intr => exact hi.markPin .intr true (by decide)
  exact (hm.onEvent k _).comeTo h

/-- A pin that none of the invariant's clauses speaks of. -/
theorem Inv.setClockPin {s : State} (hi : Inv s) {p : Pins} (hp : p = { s.pins with
    pwrok := p.pwrok, sysclk := p.sysclk, picclk := p.picclk }) : Inv { s with pins := p } := by
  rw [hp]
  exact hi.setPins rfl (fun _ => rfl) (fun _ h => .inl h)

theorem Inv.onSampleFid {s t : State} (hi : Inv s) (h : onSampleFid s = .next t) : Inv t := by
  unfold Machine.onSampleFid at h
  split at h <;> injection h with h <;> subst h <;> exact hi.update hi.mem hi.organised

/-- An answer that is given, of a state with the invariant. -/
theorem Inv.of_next {u t : State} (h : (.next u : Result) = .next t) (hu : Inv u) : Inv t := by
  injection h with h; exact h ▸ hu

theorem Inv.onInput {s t : State} (hi : Inv s) (i : Input) (h : onInput i s = .next t) : Inv t := by
  cases i with
  | step => exact hi.ownStep _ h
  | stpclkAssert => exact hi.onStpclkAssert _ h
  | stpclkDeassert => exact hi.onStpclkDeassert h
  | intr => exact hi.event .intr 0 h
  | nmi => exact hi.event .nmi 0 h
  | smi => exact hi.event .smi 0 h
  | init => exact hi.event .init 0 h
  | apicMsg m => exact hi.event .apic m h
  | release => exact hi.onRelease _ h
  | pulse => exact hi.onPulse _ _ h
  | vector => exact .of_next h (hi.update hi.mem hi.organised)
  | resetAssert => exact hi.onResetAssert h
  | resetDeassert => exact hi.onResetDeassert h
  | nbReset => exact hi.onNbReset _ h
  | pwrokAssert => exact hi.onPwrokAssert h
  | pwrokDeassert => exact .of_next (require_next.1 (require_next.1 h).2).2 (hi.setClockPin rfl)
  | sampleFid => exact hi.onSampleFid h
  | sipDone => exact hi.onSipDone _ h
  | connectDeassert => exact hi.onConnectDeassert h
  | connectAssert => exact hi.onConnectAssert h
  | clkfwdrstAssert => exact hi.onClkfwdrstAssert h
  | clkfwdrstDeassert => exact hi.onClkfwdrstDeassert h
  | fwdclkStart => exact hi.onFwdclkStart h
  | probe => exact hi.onProbe _ h
  | probeDone => exact hi.onProbeDone h
  | command => exact .of_next (require_next.1 h).2 (hi.update hi.mem hi.organised)
  | dataMovement => exact .of_next h (hi.update hi.mem hi.organised)
  | nbEnables => exact .of_next h (hi.update hi.mem hi.organised)
  | busWrite => exact hi.onBusWrite _ _ h
  | busRead a => exact hi.onBusRead a h
  | a20m => exact hi.onA20m _ h
  | ignne => exact hi.onIgnne _ h
  | tieOff => simp [Machine.onInput, onTieOff] at h
  | sysclk => exact .of_next (require_next.1 h).2 (hi.setClockPin rfl)
  | sysclkPeriod => exact hi.onSysclkPeriod _ h
  | picclk => exact .of_next (require_next.1 h).2 (hi.setClockPin rfl)
  | supply33Good => exact .of_next h (hi.update hi.mem hi.organised)
  | supply33Lost => exact .of_next h (hi.update hi.mem hi.organised)
  | vccaGood => exact .of_next h (hi.update hi.mem hi.organised)
  | vccCoreOn => exact hi.onVccCoreOn _ h
  | powerOff => exact hi.removeVccCore 0 h
  | rail => exact hi.onRail _ _ _ h
  | dieTemp => exact .of_next (require_next.1 h).2 (hi.update hi.mem hi.organised)
  | elapse => exact hi.letPass _ h
  | speculate => exact hi.onSpeculate _ h

theorem Inv.ownStepFree {s t : State} (hi : Inv s) (h : ownStepFree s = .next t) : Inv t := by
  unfold Machine.ownStepFree at h
  split at h
  · exact Inv.ownStep (s := { s with free := s.free + 1 }) (hi.update hi.mem hi.organised) _ h
  · exact hi.ownWork h

/-- A schedule does not matter to the invariant. -/
theorem Inv.setInputs {s : State} (hi : Inv s) (is : List Input) : Inv { s with inputs := is } :=
  hi.update hi.mem hi.organised

theorem Inv.step {s t : State} (hi : Inv s) (h : step s = .next t) : Inv t := by
  cases hq : s.inputs with
  | nil => exact hi.ownStepFree (step_nil hq ▸ h)
  | cons i is => exact (hi.setInputs is).onInput i (step_cons hq ▸ h)

/-- And so do several steps. -/
theorem Inv.runSteps {n : Nat} {s t : State} (hi : Inv s) (h : runSteps n s = .next t) : Inv t := by
  induction n generalizing s with
  | zero => exact .of_next h hi
  | succ n ih =>
    obtain ⟨u, hu, h⟩ := andThen_next.1 h
    exact ih (hi.step hu) h

end Sys2Proof.Machine

namespace Sys2Proof.Proofs

open Sys2Proof.Machine

/-- Settles O54: one lemma for each input's handler and for the processor's own step. -/
theorem invariantKept : Obligations.InvariantKept :=
  fun _ _ hi h => hi.step h

end Sys2Proof.Proofs
end

section
/-! PROOFS. Events in Halt (40_power_states.md R138). Then the statements of this family. -/

namespace Sys2Proof.Machine

/-! ### Rules about events -/

theorem deliverable_congr {s t : State} (h : t.x86 = s.x86) (k : Kind) : t.deliverable k = s.deliverable k := by
  simp [State.deliverable, h]

theorem busUp_congr {s t : State} (h : t.conn = s.conn) : t.busUp = s.busUp := by simp [State.busUp, h]

@[simp] theorem running_setInputs (s : State) (is : List Input) : ({ s with inputs := is } : State).running = s.running := rfl

/-- An event's step: its pin, then what the event does. -/
theorem step_event {s : State} {is : List Input} {k : Kind} {m : Opaque} (h : s.inputs = k.input m :: is) :
    step s = comeTo (onEvent k (if k = .apic then m else 0) (k.mark { s with inputs := is })) := by
  rw [step_cons h, onInput_kind]

/-- An event's pin is marked alike whatever the schedule is. -/
theorem mark_setInputs_pins (k : Kind) (s : State) (is : List Input) :
    (k.mark { s with inputs := is }).pins = (k.mark s).pins := by cases k <;> rfl

/-- An event in a Halt whose bus operates, with nothing latched: Halt ends, and the event is delivered in Working. -/
theorem wakeUp_finishHalt_latch {s : State} {k : Kind} (m : Opaque) (hb : s.busUp = true) (hd : s.deliverable k = true)
    (hl : s.latched.any = false) :
    wakeUp finishHalt (latch k m s) =
      { deliver k m { cancelDisconnect (latch k m s) with pm := .working } with latched := .empty } := by
  rw [wakeUp_up _ (latch k m s) hb]
  exact deliverLatched_one hl (by simp [latch]) ((deliverable_congr (by simp) k).trans hd)

end Sys2Proof.Machine

namespace Sys2Proof.Proofs

open Sys2Proof.Machine

/-- Settles O20: the wake-up is at once, and what is delivered acts as in a state that agrees on what delivery reads. -/
theorem eventEndsConnectedHalt : Obligations.EventEndsConnectedHalt := by
  unfold Obligations.EventEndsConnectedHalt
  intro s is k m hi hr hp hb hd hl hv
  let u := k.mark { s with inputs := is }
  let w : State := { cancelDisconnect (latch k m u) with pm := .working }
  have hdu : u.deliverable k = true := (deliverable_congr (by simp [u]) k).trans hd
  have hwake : onEvent k (if k = .apic then m else 0) u = { deliver k m w with latched := .empty } := by
    rw [onEvent_halt (by simpa [u] using hr) (by simpa [u] using hp) hdu, latch_message]
    exact wakeUp_finishHalt_latch m ((busUp_congr (by simp [u])).trans hb) hdu (by simpa [u] using hl)
  have hsteady : Steady s (onEvent k (if k = .apic then m else 0) u) :=
    .trans {} ((steady_mark k { s with inputs := is }).trans (steady_onEvent _ _ _))
  have hsame : SameForX86 w { w with env := s.env } := ⟨rfl, rfl, rfl, rfl, by simp [w, u], rfl, rfl⟩
  have hdel := hsame.deliver k m
  refine ⟨_, step_event hi |>.trans (comeTo_ok (vccCoreOk_of_tolerance (hsteady.vccInTolerance_eq.trans hv))), ?_⟩
  rw [hwake]
  refine ⟨?_, ?_, ?_, rfl, ?_, ?_, ?_, ?_, { w with env := s.env }, ?_, ?_, ?_, ?_, rfl, ?_, hdel.x86, hdel.mem, hdel.cache⟩ <;>
    simp [w, u, mark_setInputs_pins, latch]
  split <;> simp

/-- Settles O21: the event is latched, and the wake-up waits for the bus. -/
theorem eventInDisconnectedHaltWakes : Obligations.EventInDisconnectedHaltWakes := by
  unfold Obligations.EventInDisconnectedHaltWakes
  intro s is k m hi hr hp hb hd
  let u := k.mark { s with inputs := is }
  have hwake : onEvent k (if k = .apic then m else 0) u = { u with latched := s.latched.add k m, wake := true, discReq := false } := by
    rw [onEvent_halt (by simpa [u] using hr) (by simpa [u] using hp) ((deliverable_congr (by simp [u]) k).trans hd),
      latch_message, wakeUp_down _ (latch k m u) ((busUp_congr (by simp [u, latch])).trans hb)]
    simp [oweConnect, latch, u]
  rw [step_event hi, comeTo_ok, hwake]
  rw [hwake]
  exact vccCoreOk_of_ne (by simp [u, hp])

end Sys2Proof.Proofs
end

section
/-! PROOFS. STPCLK#'s edges: what onStpclkAssert and onStpclkDeassert do, by whether a probe is being serviced. -/

namespace Sys2Proof.Machine

/-! ### Edges of STPCLK# -/

/-- What an assertion of STPCLK# does before anything else: the pin, the time, the cause. -/
def markStpclk (c : StpclkCause) (s : State) : State :=
  markPin .stpclk true { s with env := { s.env with stpclkCause := c } }

@[simp] theorem markStpclk_pm (c : StpclkCause) (s : State) : (markStpclk c s).pm = s.pm := rfl
@[simp] theorem markStpclk_stpclk (c : StpclkCause) (s : State) : (markStpclk c s).pins.stpclk = true := rfl

/-- STPCLK# is asserted while no probe is being serviced. -/
theorem onStpclkAssert_now {s : State} (c : StpclkCause) (hr : s.running = true) (hs : s.pins.stpclk = false)
    (hv : s.servicing = false) : onStpclkAssert c s = .next (stpclkEdge true (leaveProbe (markStpclk c s))) := by
  simp [onStpclkAssert, markStpclk, hr, hs, hv]

/-- While one is, it waits. -/
theorem onStpclkAssert_servicing {s : State} (c : StpclkCause) (hr : s.running = true) (hs : s.pins.stpclk = false)
    (hv : s.servicing = true) : onStpclkAssert c s = .next (defer (.stpclk true) (markStpclk c s)) := by
  simp [onStpclkAssert, markStpclk, hr, hs, hv]

/-- STPCLK# is deasserted outside Working while no probe is being serviced. -/
theorem onStpclkDeassert_now {s : State} (hr : s.running = true) (hs : s.pins.stpclk = true) (hv : s.servicing = false)
    (hw : s.restPm ≠ .working) :
    onStpclkDeassert s = require (!(s.restPm == .stopGrant && s.oweSg)) .stpclkReleasedEarly
      (comeTo (stpclkEdge false (leaveProbe (markPin .stpclk false s)))) := by
  have hpm : (leaveProbe (markPin .stpclk false s)).pm = s.restPm := leaveProbe_restPm _
  have howe : (leaveProbe (markPin .stpclk false s)).oweSg = s.oweSg := by simp
  have hne := leaveProbe_ne (markPin .stpclk false s)
  simp only [onStpclkDeassert, hr, hs, hv, require_true, if_true, Bool.false_eq_true, if_false]
  generalize leaveProbe (markPin .stpclk false s) = u at hpm howe hne
  rw [← hpm] at hw ⊢
  cases hp : u.pm with
  | working => exact absurd hp hw
  | probe => exact absurd hp hne
  | stopGrant => simp [howe]
  | halt =>
    rw [stpclkEdge_none (by simp) (by simp [hp]), comeTo_ok (vccCoreOk_of_ne hw)]
    rfl

/-- While one is, it waits. -/
theorem onStpclkDeassert_servicing {s : State} (hr : s.running = true) (hs : s.pins.stpclk = true)
    (hv : s.servicing = true) : onStpclkDeassert s = .next (defer (.stpclk false) (markPin .stpclk false s)) := by
  simp [onStpclkDeassert, hr, hs, hv]

end Sys2Proof.Machine
end

section
/-! PROOFS. Stop Grant entered from Halt, events latched in Stop Grant (40_power_states.md R139, R141).
Then the statements of this family. -/

namespace Sys2Proof.Machine

/-! ### STPCLK# asserted in Halt -/

/-- On an operating bus (40_power_states.md R139). -/
theorem stopGrantFromHalt_up {s : State} (h : s.busUp = true) :
    stopGrantFromHalt s = { s with
      pm := .stopGrant, sgFromHalt := true, oweSg := false, conn := .connected, discReq := true
      env := { s.env with probeDue := false }
      out := s.out ++ (if s.discReq then [.cycle .connect] else []) ++ [.cycle .stopGrant] } := by
  unfold stopGrantFromHalt
  rw [wakeUp_up _ { s with pm := .stopGrant, sgFromHalt := true, oweSg := true } h]
  apply State.ext <;> simp
  split <;> simp

/-- On a bus that is off or coming up (R139). -/
theorem stopGrantFromHalt_down {s : State} (h : s.busUp = false) :
    stopGrantFromHalt s = { s with pm := .stopGrant, sgFromHalt := true, oweSg := true, wake := true, discReq := false } :=
  wakeUp_down _ { s with pm := .stopGrant, sgFromHalt := true, oweSg := true } h

/-- An event in Stop Grant is latched, unless it is a masked INTR. -/
theorem step_event_stopGrant {s : State} {is : List Input} {k : Kind} {m : Opaque} (hi : s.inputs = k.input m :: is)
    (hr : s.running = true) (hp : s.pm = .stopGrant) :
    step s = .next { s with
      inputs := is, pins := (k.mark s).pins, times := (k.mark s).times
      latched := if s.deliverable k then s.latched.add k m else s.latched } := by
  have hmark : k.mark { s with inputs := is } = { s with inputs := is, pins := (k.mark s).pins, times := (k.mark s).times } := by
    cases k <;> rfl
  have hd : (k.mark { s with inputs := is }).deliverable k = s.deliverable k := deliverable_congr (by simp) k
  rw [step_event hi, onEvent_stopGrant (by simpa using hr) (by simpa using hp), hd, latch_message, hmark]
  split <;> exact comeTo_ok (vccCoreOk_of_ne (fun h => by cases hp.symm.trans h))

/-- Of the pins an event changes its own only. -/
theorem mark_pins (k : Kind) (s : State) : (k.mark s).pins = { s.pins with
    init := (k.mark s).pins.init, smi := (k.mark s).pins.smi, nmi := (k.mark s).pins.nmi, intr := (k.mark s).pins.intr } := by
  cases k <;> rfl

theorem recogniseStpclk_of_working {s : State} (h : s.pm = .working) : recogniseStpclk s = enterStopGrant s := by
  simp [recogniseStpclk, h]

theorem recogniseStpclk_of_halt {s : State} (h : s.pm = .halt) : recogniseStpclk s = stopGrantFromHalt s := by
  simp [recogniseStpclk, h]

theorem stpclkPending_of_working {s : State} (hr : s.running = true) (hp : s.pm = .working) (hc : s.conn = .connected)
    (hs : s.pins.stpclk = true) : s.stpclkPending = true := by
  simp [State.stpclkPending, hr, hp, hc, hs]

theorem stpclkPending_of_halt {s : State} (hr : s.running = true) (hp : s.pm = .halt) (hs : s.pins.stpclk = true) :
    s.stpclkPending = true := by
  simp [State.stpclkPending, hr, hp, hs]

/-- An own step that recognises an asserted STPCLK#. -/
theorem ownStep_recognise {s : State} (h : s.stpclkPending = true) : ownStep true s = .next (recogniseStpclk s) := by
  simp [ownStep, h]

/-- With no input left, a free value says whether it does. -/
theorem step_free_pending {s : State} (h : s.stpclkPending = true) (hi : s.inputs = []) :
    step s = ownStep (Config.recognisesStpclk s.free) { s with free := s.free + 1 } := by
  rw [step_nil hi, ownStepFree, if_pos h]

end Sys2Proof.Machine

namespace Sys2Proof.Proofs

open Sys2Proof.Machine

/-- Settles O22, by induction on the events. -/
theorem eventsInStopGrantAreLatched : Obligations.EventsInStopGrantAreLatched := by
  unfold Obligations.EventsInStopGrantAreLatched
  intro evs
  induction evs with
  | nil =>
    intro s is _ _ hi
    exact ⟨s, rfl, by rw [← (show s.inputs = is from hi)], rfl, fun k => by simp⟩
  | cons e evs ih =>
    intro s is hr hp hi
    obtain ⟨k, m⟩ := e
    obtain ⟨u, hstep, hu⟩ : ∃ u, step s = .next u ∧ _ := ⟨_, step_event_stopGrant hi hr hp, rfl⟩
    obtain ⟨t, ht, hframe, hpins, hlat⟩ := ih u is (by rw [← hu]; exact hr) (by rw [← hu]; exact hp) (by rw [← hu]; rfl)
    have hul : u.latched = if s.deliverable k then s.latched.add k m else s.latched := by rw [← hu]
    refine ⟨t, (runSteps_next hstep).trans ht, by rw [hframe, ← hu], by rw [hpins, ← hu, mark_pins k s], fun j => ?_⟩
    rw [hlat, hul, deliverable_congr (by rw [← hu] : u.x86 = s.x86) j, List.any_cons]
    by_cases hkj : k = j
    · subst hkj
      cases s.deliverable k <;> simp
    · have hne : (k == j) = false := by simpa using hkj
      cases s.deliverable k <;> simp [hne]

/-- Settles O27: however it is recognised, what happens is `stopGrantFromHalt`, by whether the bus operates. -/
theorem stpclkInHalt : Obligations.StpclkInHalt := by
  unfold Obligations.StpclkInHalt
  intro s is hr hp granted
  have key : ∀ p e tm q n, p = { s.pins with stpclk := true } →
      granted (stopGrantFromHalt { s with pins := p, env := e, times := tm, inputs := q, free := n }) := by
    rintro p e tm q n rfl
    have hb : State.busUp { s with pins := { s.pins with stpclk := true }, env := e, times := tm, inputs := q, free := n } = s.busUp := rfl
    cases hbs : s.busUp with
    | true => rw [stopGrantFromHalt_up (hb.trans hbs)]; simp [granted, hbs]
    | false => rw [stopGrantFromHalt_down (hb.trans hbs)]; simp [granted, hbs]
  have hlevel : s.pins.stpclk = true → s.pins = { s.pins with stpclk := true } := fun h => by rw [← h]
  have hpend : s.pins.stpclk = true → s.stpclkPending = true := fun h => stpclkPending_of_halt hr hp h
  have hrec : ∀ q n, s.pins.stpclk = true → ownStep true { s with inputs := q, free := n } =
      .next (stopGrantFromHalt { s with inputs := q, free := n }) := fun q n hs =>
    (ownStep_recognise (s := { s with inputs := q, free := n }) (hpend hs)).trans
      (congrArg _ (recogniseStpclk_of_halt (by exact hp)))
  refine ⟨fun c hi hs => ⟨_, ?_, key { s.pins with stpclk := true } { s.env with stpclkCause := c }
      { s.times with stpclkAt := some s.times.now } is s.free rfl⟩,
    fun hi hs => ⟨_, (step_cons hi).trans (hrec is s.free hs), key s.pins s.env s.times is s.free (hlevel hs)⟩,
    fun hi hs hc => ⟨_, ?_, key s.pins s.env s.times s.inputs (s.free + 1) (hlevel hs)⟩⟩
  · rw [step_cons hi]
    refine (onStpclkAssert_now (s := { s with inputs := is }) c hr hs (servicing_of_ne (by simp [hp]))).trans ?_
    rw [leaveProbe_of_ne (by simp [hp]), stpclkEdge_halt (by simpa using hp)]
    rfl
  · rw [step_free_pending (hpend hs) hi, hc]
    exact hrec s.inputs (s.free + 1) hs

end Sys2Proof.Proofs
end

section
/-! PROOFS. The end of Stop Grant (40_power_states.md R142, R144, R146). Then the statement of this family. -/

namespace Sys2Proof.Machine

/-! ### STPCLK# deasserted in Stop Grant -/

/-- Its step (40_power_states.md R142; 93 U7). -/
theorem step_stpclkDeassert_stopGrant {s : State} {is : List Input} (hi : s.inputs = .stpclkDeassert :: is)
    (hr : s.running = true) (hp : s.pm = .stopGrant) (hs : s.pins.stpclk = true) :
    step s = require (!s.oweSg) .stpclkReleasedEarly
      (comeTo (wakeUp finishStopGrant { s with inputs := is, pins := { s.pins with stpclk := false } })) := by
  have hnow := onStpclkDeassert_now (s := { s with inputs := is }) hr hs (servicing_of_ne (by simp [hp]))
    (by simp [restPm_of_ne, hp])
  have hne : (markPin .stpclk false { s with inputs := is }).pm ≠ .probe := by simp [hp]
  have hrest : State.restPm { s with inputs := is } = .stopGrant := by simp [restPm_of_ne, hp]
  rw [leaveProbe_of_ne hne, stpclkEdge_stopGrant (by simpa using hp), hrest] at hnow
  exact (step_cons hi).trans hnow

/-- With nothing owed. -/
theorem step_stpclkDeassert_answered {s : State} {is : List Input} (hi : s.inputs = .stpclkDeassert :: is)
    (hr : s.running = true) (hp : s.pm = .stopGrant) (hs : s.pins.stpclk = true) (ho : s.oweSg = false) :
    step s = comeTo (wakeUp finishStopGrant { s with inputs := is, pins := { s.pins with stpclk := false } }) := by
  rw [step_stpclkDeassert_stopGrant hi hr hp hs]
  simp [ho]

/-- Entered from Working, Stop Grant ends in Working (R142). -/
theorem finishStopGrant_fromWorking {s : State} (h : s.sgFromHalt = false) :
    finishStopGrant s = deliverLatched { s with pm := .working } := by
  simp [finishStopGrant, h]

/-- Entered from Halt, it ends in Halt (R146). -/
theorem finishStopGrant_fromHalt {s : State} (h : s.sgFromHalt = true) (hl : s.latched.any = false) :
    finishStopGrant s = reenterHalt s := by
  simp [finishStopGrant, returnToHalt, h, hl]

/-- With an event latched that Halt ends at once (R144, 92 D15). -/
theorem finishStopGrant_throughHalt {s : State} (h : s.sgFromHalt = true) (hl : s.latched.any = true) (hb : s.busUp = true) :
    finishStopGrant s = deliverLatched { cancelDisconnect (reenterHalt s) with pm := .working } := by
  simp [finishStopGrant, returnToHalt, h, hl, wakeUp_up _ (reenterHalt s) ((busUp_congr (by simp)).trans hb), finishHalt]

/-- Delivery in two states that agree on what it depends on. -/
theorem deliverLatched_like {u w : State} (h : SameForX86 u w) (hl : u.latched = w.latched) :
    (deliverLatched u).x86 = (deliverLatched w).x86 ∧ (deliverLatched u).mem = (deliverLatched w).mem ∧
    (deliverLatched u).cache = (deliverLatched w).cache ∧
    (deliverLatched u).intrPending = (deliverLatched w).intrPending ∧ (deliverLatched u).out = u.out ++ w.latchedAck := by
  have hd := h.deliverLatched hl
  exact ⟨hd.x86, hd.mem, hd.cache, hd.pending, by rw [deliverLatched_out, h.latchedAck hl]⟩

/-- The end of a Stop Grant on a connected bus with no disconnect invited: what is delivered acts as in a state `w` that agrees with this
one on what delivery depends on. -/
theorem finishStopGrant_connected {c w : State} (hconn : c.conn = .connected) (hreq : c.discReq = false)
    (hdue : c.env.probeDue = false) (hsame : SameForX86 c w) (hlat : c.latched = w.latched) :
    let t := finishStopGrant c
    let v := deliverLatched w
    (t.conn = .connected ∧ t.env.probeDue = false ∧ t.sgFromHalt = false ∧ t.pins = c.pins ∧ t.clkCtl = c.clkCtl ∧
      t.x86 = v.x86 ∧ t.mem = v.mem ∧ t.cache = v.cache ∧ t.intrPending = v.intrPending) ∧
    (c.sgFromHalt = false →
      t.pm = .working ∧ t.discReq = false ∧ t.out = c.out ++ w.latchedAck ∧ t.latched.any = false) ∧
    (c.sgFromHalt = true → c.latched.any = false →
      t.pm = .halt ∧ t.discReq = true ∧ t.out = c.out ++ [OutEvent.cycle .halt] ∧ t.x86 = c.x86) ∧
    (c.sgFromHalt = true → c.latched.any = true →
      t.pm = .working ∧ t.discReq = false ∧
      t.out = c.out ++ [OutEvent.cycle .halt, .cycle .connect] ++ w.latchedAck ∧ t.latched.any = false) := by
  intro t v
  cases hf : c.sgFromHalt with
  | false =>
    have ht : t = _ := finishStopGrant_fromWorking hf
    obtain ⟨hx, hm, hcache, hpend, hout⟩ := deliverLatched_like (u := { c with pm := .working }) (w := w)
      ⟨hsame.x86, hsame.mem, hsame.cache, hsame.pins, hsame.vector, hsame.free, hsame.pending⟩ hlat
    rw [ht, hx, hm, hcache, hpend, hout]
    simp [hconn, hdue, hf, hreq, v]
  | true =>
    cases hl : c.latched.any with
    | false =>
      have ht : t = _ := finishStopGrant_fromHalt hf hl
      have hv : v = _ := deliverLatched_none w (hlat ▸ hl)
      rw [ht, hv]
      simp [hconn, hdue, hsame.x86, hsame.mem, hsame.cache, hsame.pending]
    | true =>
      have ht : t = _ := finishStopGrant_throughHalt hf hl (by simp [State.busUp, hconn])
      obtain ⟨hx, hm, hcache, hpend, hout⟩ := deliverLatched_like (u := { cancelDisconnect (reenterHalt c) with pm := .working })
        (w := w) ⟨by simpa using hsame.x86, by simpa using hsame.mem, by simpa using hsame.cache, by simpa using hsame.pins,
          by simpa using hsame.vector, by simpa using hsame.free, by simpa using hsame.pending⟩ (by simpa using hlat)
      rw [ht, hx, hm, hcache, hpend, hout]
      simp [v]

end Sys2Proof.Machine

namespace Sys2Proof.Proofs

open Sys2Proof.Machine

/-- Settles O28: on an operating bus the Connect special cycle, then `finishStopGrant_connected`. -/
theorem stpclkReleasedInStopGrant : Obligations.StpclkReleasedInStopGrant := by
  unfold Obligations.StpclkReleasedInStopGrant
  intro s is hi hr hp hs conn w v ack
  let w1 : State := { w with inputs := is }
  have hgo : s.oweSg = false → step s = comeTo (wakeUp finishStopGrant w1) :=
    step_stpclkDeassert_answered hi hr hp hs
  refine ⟨fun ho => by rw [step_stpclkDeassert_stopGrant hi hr hp hs]; simp [ho], fun ho hb => ?_, fun ho hb hcore => ?_⟩
  · rw [hgo ho, wakeUp_down _ w1 hb]
    exact comeTo_ok (vccCoreOk_of_ne (s := oweConnect w1) (by simp [w1, w, hp]))
  · rw [hgo ho, wakeUp_up _ w1 hb]
    have hout : (cancelDisconnect w1).out = s.out ++ conn := by
      rw [cancelDisconnect_out]; simp only [conn, w1, w]; split <;> simp
    have hv := (steady_finishStopGrant (cancelDisconnect w1)).vccInTolerance_eq.trans
      (steady_cancelDisconnect w1).vccInTolerance_eq
    obtain ⟨hall, hworking, hhalt, hthrough⟩ := finishStopGrant_connected (c := cancelDisconnect w1) (w := w)
      (by simp) (by simp) (by simp)
      ⟨by simp [w1], by simp [w1], by simp [w1], by simp [w1], by simp [w1], by simp [w1], by simp [w1]⟩ (by simp [w1])
    have hnone : s.latched.any = false → v = { w with latched := .empty } := deliverLatched_none w
    simp only [hout, cancelDisconnect_sgFromHalt, cancelDisconnect_latched, cancelDisconnect_pins, cancelDisconnect_clkCtl,
      cancelDisconnect_x86] at hall hworking hhalt hthrough
    refine ⟨_, comeTo_ok ?_, ?_⟩
    · rcases hcore with ⟨hf, hl⟩ | hcore
      · exact vccCoreOk_of_ne (by rw [(hhalt hf hl).1]; decide)
      · exact vccCoreOk_of_tolerance (hv.trans hcore)
    · obtain ⟨h1, h2, h3, h4, h5, h6, h7, h8, h9⟩ := hall
      refine ⟨h1, h2, h3, h4, h5, h6, h7, h8, h9, hworking, hhalt, ?_, fun hl => ?_⟩
      · simpa using hthrough
      · rw [h6, h7, h8, h9]
        rw [show deliverLatched w = _ from hnone hl]
        exact ⟨rfl, rfl, rfl, rfl⟩

end Sys2Proof.Proofs
end

section
/-! PROOFS. STPCLK# in Working, and throttling (40_power_states.md R135, R147, R156). Then the statements of this family. -/

namespace Sys2Proof.Machine

/-! ### STPCLK# in Working -/

/-- Asserted (40_power_states.md R156). -/
theorem step_stpclkAssert_working {s : State} {is : List Input} {c : StpclkCause} (hi : s.inputs = .stpclkAssert c :: is)
    (hr : s.running = true) (hp : s.pm = .working) (hs : s.pins.stpclk = false) :
    step s = .next { s with
      inputs := is, pins := { s.pins with stpclk := true }, env := { s.env with stpclkCause := c }
      times := { s.times with stpclkAt := some s.times.now } } := by
  rw [step_cons hi]
  refine (onStpclkAssert_now (s := { s with inputs := is }) c hr hs (servicing_of_ne (by simp [hp]))).trans ?_
  rw [leaveProbe_of_ne (by simp [hp]), stpclkEdge_none (by simp [hp]) (by simp)]
  rfl

/-- Deasserted (R156). -/
theorem step_stpclkDeassert_working {s : State} {is : List Input} (hi : s.inputs = .stpclkDeassert :: is)
    (hr : s.running = true) (hp : s.pm = .working) (hs : s.pins.stpclk = true) :
    step s = .next { s with inputs := is, pins := { s.pins with stpclk := false } } := by
  have hv : s.servicing = false := servicing_of_ne (by simp [hp])
  have hv' : State.servicing { s with inputs := is } = false := hv
  rw [step_cons hi]
  simp only [onInput, onStpclkDeassert, hs, running_setInputs, hr, hv', require_true, if_true]
  rw [leaveProbe_of_ne (by simp [hp])]
  simp [hp]
  rfl

/-- Recognised, with the bus connected (R135). -/
theorem step_recognise_working {s : State} {is : List Input} (hi : s.inputs = .step true :: is) (hr : s.running = true)
    (hp : s.pm = .working) (hc : s.conn = .connected) (hs : s.pins.stpclk = true) :
    step s = .next (enterStopGrant { s with inputs := is }) := by
  rw [step_cons hi, ← recogniseStpclk_of_working (s := { s with inputs := is }) hp]
  exact ownStep_recognise (stpclkPending_of_working hr hp hc hs)

/-- Any other boundary in Working: a pending INTR that is masked no longer, or an instruction (R132, R142). -/
theorem ownStep_boundary {s : State} {b : Bool} (hr : s.running = true) (hp : s.pm = .working) (hc : s.conn = .connected)
    (hb : b = false ∨ s.pins.stpclk = false) : ownStep b s = atBoundary s := by
  have : (b && s.stpclkPending) = false := by rcases hb with h | h <;> simp [State.stpclkPending, h]
  simp [ownStep, this, ownWork_working hr hp hc]

theorem Inv.oweSg_of_ne {s : State} (hi : Inv s) (hp : s.pm ≠ .stopGrant) : s.oweSg = false := by
  by_contra h
  exact hp (hi.owed (by simpa using h)).1

/-- Stop Grant entered from Working ends, on an operating bus with nothing latched. -/
theorem wakeUp_finishStopGrant_none {s : State} (hb : s.busUp = true) (hf : s.sgFromHalt = false) (hl : s.latched.any = false) :
    wakeUp finishStopGrant s = { cancelDisconnect s with pm := .working, latched := .empty } := by
  rw [wakeUp_up _ s hb, finishStopGrant_fromWorking (by simpa using hf), deliverLatched_none _ (by simpa using hl)]

/-- The three steps of one throttling episode on a connected bus: STPCLK# asserted, recognised, deasserted. -/
theorem throttling_episode {s : State} {is : List Input} (hinv : Inv s) (hr : s.running = true) (hp : s.pm = .working)
    (hs : s.pins.stpclk = false) (hv : s.vccInTolerance = true)
    (hi : s.inputs = .stpclkAssert .throttling :: .step true :: .stpclkDeassert :: is) :
    ∃ t, runSteps 3 s = .next t ∧ t = { s with
      inputs := is, sgFromHalt := false, latched := .empty, out := s.out ++ [.cycle .stopGrant, .cycle .connect]
      env := t.env, times := t.times } ∧ t.vccInTolerance = true := by
  have hc := hinv.working hp
  have howe : s.oweSg = false := hinv.oweSg_of_ne (by simp [hp])
  have hreq : s.discReq = false := by have := hinv.invited; simp_all
  let u1 : State := { s with
    inputs := .step true :: .stpclkDeassert :: is, pins := { s.pins with stpclk := true }
    env := { s.env with stpclkCause := .throttling }, times := { s.times with stpclkAt := some s.times.now } }
  let u2 : State := enterStopGrant { u1 with inputs := .stpclkDeassert :: is }
  let u3 : State := { u2 with inputs := is, pins := { u2.pins with stpclk := false } }
  let t : State := { cancelDisconnect u3 with pm := .working, latched := .empty }
  have h1 : step s = .next u1 := step_stpclkAssert_working hi hr hp hs
  have h2 : step u1 = .next u2 := step_recognise_working (s := u1) rfl hr hp hc rfl
  have ht : t = { s with
      inputs := is, sgFromHalt := false, latched := .empty, out := s.out ++ [.cycle .stopGrant, .cycle .connect]
      env := t.env, times := t.times } := by
    apply State.ext <;> simp [t, u3, u2, u1, hc, hp, hreq]
    rw [← hs]
  have hvt : t.vccInTolerance = true :=
    (vccInTolerance_congr (by simp [t, u3, u2, u1]) (by simp [t, u3, u2, u1]) (by simp [t, u3, u2, u1])).trans hv
  have h3 : step u2 = .next t := by
    have hend : wakeUp finishStopGrant u3 = t :=
      wakeUp_finishStopGrant_none (by simp [State.busUp, u3, u2, u1, hc]) rfl (hinv.served hp)
    rw [step_stpclkDeassert_answered (s := u2) (is := is) rfl hr rfl rfl howe, show wakeUp finishStopGrant _ = t from hend]
    exact comeTo_ok (vccCoreOk_of_tolerance hvt)
  exact ⟨t, (runSteps_next h1).trans ((runSteps_next h2).trans (runSteps_next h3)), ht, hvt⟩

end Sys2Proof.Machine

namespace Sys2Proof.Proofs

open Sys2Proof.Machine

/-- Settles O29: in Working an edge is only noted. -/
theorem stpclkEdgesInWorking : Obligations.StpclkEdgesInWorking :=
  fun _ _ hr hp => ⟨fun _ hi hs => step_stpclkAssert_working hi hr hp hs, fun hi hs => step_stpclkDeassert_working hi hr hp hs⟩

/-- Settles O26: a boundary recognises STPCLK#, or is any other boundary. -/
theorem stpclkRecognisedInWorking : Obligations.StpclkRecognisedInWorking := by
  unfold Obligations.StpclkRecognisedInWorking
  intro s hr hp hc hs granted goesOn
  have hgoes : ∀ q n, atBoundary { s with inputs := q, free := n } = goesOn { s with inputs := q, free := n } := by
    intro q n
    by_cases hdue : s.intrPending = true ∧ s.x86.intrMasked = false
    · exact (atBoundary_due (s := { s with inputs := q, free := n }) hdue.1 hdue.2).trans (if_pos hdue).symm
    · have hnot : s.intrPending = false ∨ s.x86.intrMasked = true := by
        rwa [not_and_or, Bool.not_eq_true, Bool.not_eq_false] at hdue
      exact (atBoundary_none (s := { s with inputs := q, free := n }) hnot).trans (if_neg hdue).symm
  have hpend : ∀ n, State.stpclkPending { s with free := n } = true := fun _ =>
    stpclkPending_of_working hr hp hc hs
  refine ⟨fun is hi => step_recognise_working hi hr hp hc hs, fun is hi => ?_, fun hi => ?_⟩
  · rw [step_cons hi, ← hgoes is s.free]
    exact ownStep_boundary (s := { s with inputs := is }) hr hp hc (.inl rfl)
  · rw [step_free_pending (hpend s.free) hi]
    cases Config.recognisesStpclk s.free with
    | true => exact (ownStep_recognise (hpend (s.free + 1))).trans (congrArg _ (recogniseStpclk_of_working hp))
    | false => exact (ownStep_boundary (s := { s with free := s.free + 1 }) hr hp hc (.inl rfl)).trans (hgoes s.inputs (s.free + 1))

/-- Settles O30, by induction on the episodes. -/
theorem throttlingSendsPairs : Obligations.ThrottlingSendsPairs := by
  unfold Obligations.ThrottlingSendsPairs
  intro n
  induction n with
  | zero =>
    intro s is hinv _ hp _ _ hi
    exact ⟨s, rfl, hp, hinv.working hp, by simpa using hi, by simp, rfl, rfl, rfl, rfl, rfl, rfl⟩
  | succ n ih =>
    intro s is hinv hr hp hs hv hi
    obtain ⟨u, hu, heq, hvu⟩ := throttling_episode hinv hr hp hs hv (by simpa [List.replicate_succ] using hi)
    obtain ⟨t, ht, hpm, hconn, hin, hout, hx, hm, hc, hclk, hpins, hpend⟩ := ih u is (hinv.runSteps hu) (by rw [heq]; exact hr)
      (by rw [heq]; exact hp) (by rw [heq]; exact hs) hvu (by rw [heq])
    rw [heq] at hout hx hm hc hclk hpins hpend
    refine ⟨t, ?_, hpm, hconn, hin, ?_, hx, hm, hc, hclk, hpins, hpend⟩
    · rw [Nat.mul_succ, Nat.add_comm, runSteps_add hu, ht]
    · simp [hout, List.replicate_succ]

end Sys2Proof.Proofs
end

section
/-! PROOFS. What arrives in Probe (40_power_states.md R152, R153). Then the statements of this family. -/

namespace Sys2Proof.Machine

/-! ### What arrives in Probe -/

theorem leaveProbe_of_probe {s : State} (h : s.pm = .probe) : leaveProbe s = { s with pm := s.probeRet.toPower } := by
  simp [leaveProbe, h]

theorem toPower_ne_working (r : Resting) : r.toPower ≠ .working := by cases r <;> decide

/-- The inputs that wait for a probe (40_power_states.md R153): what is remembered of each, and what it does to pins, times and
the cause of STPCLK# when it arrives. -/
inductive Arrival : Input → Deferred → (State → State) → Prop
  | event (k : Kind) (m : Opaque) : Arrival (k.input m) (.event k (if k = .apic then m else 0)) k.mark
  | asserted (c : StpclkCause) : Arrival (.stpclkAssert c) (.stpclk true) (markStpclk c)
  | deasserted : Arrival .stpclkDeassert (.stpclk false) (markPin .stpclk false)

/-- An event is no masked INTR, and an edge is a change of level. -/
def State.accepts (s : State) : Deferred → Prop
  | .event k _ => s.deliverable k = true
  | .stpclk b  => s.pins.stpclk = !b

/-! An arrival's own effect neither touches nor looks at these fields. -/

theorem Arrival.mark_inputs {i : Input} {d : Deferred} {f : State → State} (h : Arrival i d f) (s : State) (q : List Input) :
    f { s with inputs := q } = { f s with inputs := q } := by
  cases h with
  | event k m => cases k <;> rfl
  | asserted c => rfl
  | deasserted => rfl

theorem Arrival.mark_pm {i : Input} {d : Deferred} {f : State → State} (h : Arrival i d f) (s : State) (p : Power) :
    f { s with pm := p } = { f s with pm := p } := by
  cases h with
  | event k m => cases k <;> rfl
  | asserted c => rfl
  | deasserted => rfl

theorem Arrival.mark_outstanding {i : Input} {d : Deferred} {f : State → State} (h : Arrival i d f) (s : State) (b : Bool) :
    f { s with env := { s.env with probeOutstanding := b } } =
      { f s with env := { (f s).env with probeOutstanding := b } } := by
  cases h with
  | event k m => cases k <;> rfl
  | asserted c => rfl
  | deasserted => rfl

theorem Arrival.mark_fields {i : Input} {d : Deferred} {f : State → State} (h : Arrival i d f) (s : State) :
    (f s).pm = s.pm ∧ (f s).deferred = s.deferred ∧ (f s).running = s.running ∧ (f s).restPm = s.restPm := by
  cases h with
  | event k m => exact ⟨by simp, by simp, by simp, by simp [State.restPm]⟩
  | asserted c => exact ⟨rfl, rfl, rfl, rfl⟩
  | deasserted => exact ⟨rfl, rfl, rfl, rfl⟩

theorem Arrival.leaveProbe_mark {i : Input} {d : Deferred} {f : State → State} (h : Arrival i d f) (s : State) :
    leaveProbe (f s) = f (leaveProbe s) := by
  obtain ⟨-, -, -, hrest⟩ := h.mark_fields s
  rw [leaveProbe_restPm_eq, leaveProbe_restPm_eq s, hrest]
  exact (h.mark_pm s _).symm

/-- While a probe is being serviced, what arrives is remembered. -/
theorem Arrival.servicing {i : Input} {d : Deferred} {f : State → State} (h : Arrival i d f) {s : State}
    (hr : s.running = true) (ha : s.accepts d) (hv : s.servicing = true) : onInput i s = .next (defer d (f s)) := by
  cases h with
  | event k m =>
    have hp : s.pm = .probe := by simp [State.servicing] at hv; exact hv.1.1
    rw [onInput_kind, onEvent_servicing (by simpa using hr) ((deliverable_congr (by simp) k).trans ha)
      (by simpa [State.servicing] using hv)]
    exact comeTo_ok (vccCoreOk_of_ne (by simp [defer, hp]))
  | asserted c => exact onStpclkAssert_servicing c hr ha hv
  | deasserted => exact onStpclkDeassert_servicing hr ha hv

/-- While none is, it takes effect at once in the resting state, except that STPCLK# may not be deasserted while the Stop Grant
special cycle is owed (93 U7). -/
theorem Arrival.now {i : Input} {d : Deferred} {f : State → State} (h : Arrival i d f) {s : State} (hr : s.running = true)
    (ha : s.accepts d) (hv : s.servicing = false) (hw : s.restPm ≠ .working) :
    onInput i s = require (!(d == .stpclk false && s.restPm == .stopGrant && s.oweSg)) .stpclkReleasedEarly
      (comeTo (serve (leaveProbe (f s)) d)) := by
  cases h with
  | event k m =>
    rw [onInput_kind]
    have hd : (k.mark s).deliverable k = true := (deliverable_congr (by simp) k).trans ha
    have hv' : (k.mark s).servicing = false := by simpa [State.servicing] using hv
    simp only [onEvent, mark_running, hr, hd, hv', Bool.and_self, if_true, Bool.false_eq_true, if_false]
    rfl
  | asserted c =>
    refine (onStpclkAssert_now c hr ha hv).trans ?_
    have hlevel : ∀ u : State, u.pins.stpclk = true → serve u (.stpclk true) = stpclkEdge true u := fun u hu => by
      rw [serve, ← hu]
    rw [hlevel _ (by simp), comeTo_ok (vccCoreOk_of_ne fun hpm => ?_)]
    · rfl
    · exact hw ((leaveProbe_restPm (markStpclk c s)).symm.trans (stpclkEdge_true_working hpm))
  | deasserted =>
    refine (onStpclkDeassert_now hr ha hv hw).trans ?_
    have hlevel : ∀ u : State, u.pins.stpclk = false → serve u (.stpclk false) = stpclkEdge false u := fun u hu => by
      rw [serve, ← hu]
    rw [hlevel _ (by simp [markPin])]
    rfl

/-- With nothing deferred nothing is served. -/
theorem serveDeferred_nil {s : State} (h : s.deferred = []) : serveDeferred s = s := by
  simp [serveDeferred, h]
  rw [← h]

/-- One arrival served. -/
theorem serveDeferred_one {s : State} {d : Deferred} (h : s.deferred = [d]) :
    serveDeferred s = serve { s with deferred := [] } d := by
  cases d <;> simp [serveDeferred, h, levelBefore, serve]

/-- The probes are serviced, in a Probe. -/
theorem onProbeDone_probe {s : State} (hr : s.running = true) (hp : s.pm = .probe) :
    onProbeDone s = comeTo (serveDeferred
      { s with pm := s.probeRet.toPower, env := { s.env with probeOutstanding := false } }) := by
  simp [onProbeDone, hr, leaveProbe, hp]

/-- With no probe being serviced, what arrives does what it does in the resting state. -/
theorem Arrival.now_at_rest {i : Input} {d : Deferred} {f : State → State} (h : Arrival i d f) {s : State}
    (hr : s.running = true) (ha : s.accepts d) (hv : s.servicing = false) (hw : s.restPm ≠ .working) :
    onInput i s = onInput i (leaveProbe s) := by
  have ha' : (leaveProbe s).accepts d := by rw [leaveProbe_eq]; exact ha
  have hr' : (leaveProbe s).running = true := by simpa [State.running] using hr
  have hleft : leaveProbe (leaveProbe (f s)) = leaveProbe (f s) := leaveProbe_of_ne (leaveProbe_ne _)
  rw [h.now hr ha hv hw, h.now hr' ha' (servicing_of_ne (leaveProbe_ne s)) (by simpa using hw), ← h.leaveProbe_mark, hleft,
    restPm_leaveProbe, leaveProbe_oweSg]

/-- What waited for a probe does, once it has been serviced, what it does when it arrives right after that. -/
theorem Arrival.deferred_as_later {i : Input} {d : Deferred} {f : State → State} (h : Arrival i d f) {s : State}
    (hr : s.running = true) (ha : s.accepts d) (hd : s.deferred = []) (ho : s.oweSg = false) (hw : s.restPm ≠ .working) :
    onProbeDone (defer d (f s)) = onInput i (leaveProbe { s with env := { s.env with probeOutstanding := false } }) := by
  obtain ⟨-, hfd, hfr, -⟩ := h.mark_fields s
  let b : State := { s with env := { s.env with probeOutstanding := false } }
  have hv : b.servicing = false := by simp [State.servicing, b]
  have hb : f b = { f s with env := { (f s).env with probeOutstanding := false } } := h.mark_outstanding s false
  rw [← h.now_at_rest (s := b) hr ha hv hw, h.now (s := b) hr ha hv hw, hb, show b.oweSg = false from ho, Bool.and_false,
    Bool.not_false, require_true, onProbeDone, if_pos (by exact hfr.trans hr),
    serveDeferred_one (d := d) (by simp [defer, hfd, hd])]
  simp only [leaveProbe_restPm_eq, defer, ← hd, ← hfd]
  rfl

theorem runSteps_one (s : State) : runSteps 1 s = step s := by
  cases h : step s <;> simp [runSteps, andThen, h]

end Sys2Proof.Machine

namespace Sys2Proof.Proofs

open Sys2Proof.Machine

/-- Settles O33: with nothing deferred nothing is served. -/
theorem probeDoneReturns : Obligations.ProbeDoneReturns := by
  unfold Obligations.ProbeDoneReturns
  intro s is hi hr hp back
  have hstep : step s = comeTo (serveDeferred back) :=
    (step_cons hi).trans (onProbeDone_probe (s := { s with inputs := is }) hr hp)
  refine ⟨fun hd => ?_, fun _ => hstep⟩
  rw [hstep, serveDeferred_nil (s := back) hd]
  exact comeTo_ok (vccCoreOk_of_ne (toPower_ne_working s.probeRet))

/-- Settles O24: an arrival is deferred, and served what it does when it comes right after the probe. -/
theorem eventInProbeAsInRestingState : Obligations.EventInProbeAsInRestingState := by
  unfold Obligations.EventInProbeAsInRestingState
  intro s u is i d hr hp hcase servicing
  have hserv : s.servicing = true ↔ servicing := by simp [State.servicing, hp, servicing]
  have hnot : s.servicing = false ↔ ¬ servicing := by rw [← hserv]; simp
  obtain ⟨f, h, ha, rfl⟩ : ∃ f, Arrival i d f ∧ s.accepts d ∧ u = f s := by
    rcases hcase with ⟨k, m, rfl, hd, rfl, rfl⟩ | ⟨c, rfl, hs, rfl, rfl⟩ | ⟨rfl, hs, rfl, rfl⟩
    · exact ⟨k.mark, .event k m, hd, rfl⟩
    · exact ⟨markStpclk c, .asserted c, hs, rfl⟩
    · exact ⟨_, .deasserted, hs, rfl⟩
  obtain ⟨-, hfd, -, -⟩ := h.mark_fields s
  have hw : s.restPm ≠ .working := by
    rw [← leaveProbe_restPm, leaveProbe_of_probe hp]; exact toPower_ne_working _
  have hdefer : ∀ q, defer d (f { s with inputs := q }) = { f s with inputs := q, deferred := s.deferred ++ [d] } := fun q => by
    rw [h.mark_inputs s q, defer, hfd]
  rw [← hserv, Bool.not_eq_true]
  refine ⟨fun hv hi => ?_, fun hv hi => ?_, fun hv hinv hd hi => ?_⟩
  · rw [step_cons hi, step_cons (s := { s with pm := s.probeRet.toPower }) hi,
      h.now_at_rest (s := { s with inputs := is }) hr ha hv hw, leaveProbe_of_probe (by exact hp)]
  · rw [step_cons hi, h.servicing (s := { s with inputs := is }) hr ha hv, hdefer]
  · have hnone : s.oweSg = false := hinv.oweSg_of_ne (by simp [hp])
    have hwaits : step s = .next { f s with inputs := .probeDone :: is, deferred := s.deferred ++ [d] } := by
      rw [step_cons hi, h.servicing (s := { s with inputs := .probeDone :: is }) hr ha hv, hdefer]
    have hback := (probeDoneReturns { s with inputs := .probeDone :: i :: is } (i :: is) rfl hr hp).1 hd
    have hlater := h.deferred_as_later (s := { s with inputs := is }) hr ha hd hnone hw
    rw [hdefer, leaveProbe_of_probe (by exact hp)] at hlater
    rw [runSteps_next hwaits, runSteps_next hback, runSteps_one, runSteps_one, step_cons rfl, step_cons rfl]
    exact hlater

end Sys2Proof.Proofs
end

section
/-! PROOFS. What a step can do, said once: an operation that leaves registers and special cycles alone, or one of a few others. -/

namespace Sys2Proof.Machine

/-! ### The account of special cycles, and the registers -/

/-- The disconnect invitations sent so far: a Halt or Stop Grant special cycle is one (41_connect_protocol.md R190). -/
def State.invitations (s : State) : Nat := s.cycles.count .halt + s.cycles.count .stopGrant

/-- The invitation still open: a disconnect invited, or a Connect special cycle owed. -/
def State.unanswered (s : State) : Nat := if s.discReq || s.wake then 1 else 0

/-- What is sent from `s` to `t` keeps the balance of invitations and Connect special cycles (40_power_states.md R157 (e)). -/
def Balanced (s t : State) : Prop :=
  t.invitations + s.cycles.count .connect + s.unanswered = s.invitations + t.cycles.count .connect + t.unanswered

/-- No special cycle is sent, and the same invitation is open. -/
structure SameAccount (s t : State) : Prop where
  cycles : t.cycles = s.cycles := by simp [State.cycles]
  discReq : t.discReq = s.discReq := by simp
  wake : t.wake = s.wake := by simp

/-- Working is not left, and unless it is entered no register changes. -/
structure Idle (s t : State) : Prop where
  stays : s.pm = .working → t.pm = .working := by simp
  kept : t.pm ≠ .working → t.x86 = s.x86 ∧ t.clkCtl = s.clkCtl ∧ t.part = s.part ∧ t.sip = s.sip := by simp

/-- Both. -/
structure Quiet (s t : State) : Prop extends SameAccount s t, Idle s t

theorem SameAccount.trans {s t u : State} (h : SameAccount s t) (h' : SameAccount t u) : SameAccount s u :=
  ⟨h'.cycles.trans h.cycles, h'.discReq.trans h.discReq, h'.wake.trans h.wake⟩

theorem Idle.trans {s t u : State} (h : Idle s t) (h' : Idle t u) : Idle s u where
  stays := h'.stays ∘ h.stays
  kept hu := by
    obtain ⟨hx, hc, hp, hs⟩ := h.kept (mt h'.stays hu)
    obtain ⟨hx', hc', hp', hs'⟩ := h'.kept hu
    exact ⟨hx'.trans hx, hc'.trans hc, hp'.trans hp, hs'.trans hs⟩

theorem Quiet.trans {s t u : State} (h : Quiet s t) (h' : Quiet t u) : Quiet s u :=
  { h.toSameAccount.trans h'.toSameAccount, h.toIdle.trans h'.toIdle with }

theorem Quiet.refl (s : State) : Quiet s s := {}

theorem Balanced.trans {s t u : State} (h : Balanced s t) (h' : Balanced t u) : Balanced s u := by
  unfold Balanced at *; omega

theorem SameAccount.unanswered {s t : State} (h : SameAccount s t) : t.unanswered = s.unanswered := by
  simp [State.unanswered, h.discReq, h.wake]

theorem SameAccount.balanced {s t : State} (h : SameAccount s t) : Balanced s t := by
  simp [Balanced, State.invitations, h.cycles, h.unanswered]

/-- An answer that is given is the state answered. -/
theorem Quiet.of_next {s t u : State} (h : (.next u : Result) = .next t) (hu : Quiet s u) : Quiet s t := by
  injection h with h; exact h ▸ hu

/-! ### Quiet operations -/

theorem quiet_leaveProbe (s : State) : Quiet s (leaveProbe s) where
  stays h := by simp [h]

theorem quiet_markPin (p : EventPin) (b : Bool) (s : State) : Quiet s (markPin p b s) := {}

theorem quiet_mark (k : Kind) (s : State) : Quiet s (k.mark s) := {}

theorem quiet_markStpclk (c : StpclkCause) (s : State) : Quiet s (markStpclk c s) :=
  .trans (t := { s with env := { s.env with stpclkCause := c } }) {} (quiet_markPin _ _ _)

/-- Noting an assertion changes times only. -/
theorem noteAssert_eq (p : EventPin) (n : Nat) (s : State) : noteAssert p n s = { s with times := (noteAssert p n s).times } := by
  cases p <;> rfl

theorem quiet_passTime (n : Nat) (s : State) : Quiet s (passTime n s) := {}

theorem quiet_defer (d : Deferred) (s : State) : Quiet s (defer d s) := ⟨⟨rfl, rfl, rfl⟩, id, fun _ => ⟨rfl, rfl, rfl, rfl⟩⟩

theorem quiet_latch (k : Kind) (m : Opaque) (s : State) : Quiet s (latch k m s) := {}

theorem quiet_dropProcrdy (s : State) : Quiet s (dropProcrdy s) where
  cycles := by simp [State.cycles, OutEvent.cycle?]

theorem quiet_raiseProcrdy (s : State) : Quiet s (raiseProcrdy s) where
  cycles := by simp [State.cycles, OutEvent.cycle?]

theorem quiet_enterProbe (s : State) : Quiet s (enterProbe s) := by
  cases hp : s.pm <;> simp only [enterProbe, hp]
  · exact .refl s
  · exact { stays := by simp [hp] }
  · exact { stays := by simp [hp] }
  · exact .refl s

theorem quiet_letPass {s t : State} {n : Nat} (h : letPass n s = .next t) : Quiet s t := by
  obtain ⟨-, rfl⟩ := letPass_next.1 h
  exact quiet_passTime n s

theorem quiet_sampleConnect (s : State) : Quiet s (sampleConnect s) := by
  unfold sampleConnect
  split
  · exact {}
  · exact .refl s

theorem quiet_onConnectDeassert {s t : State} (h : onConnectDeassert s = .next t) : Quiet s t := by
  simp only [onConnectDeassert, require_next] at h
  obtain ⟨-, -, h⟩ := h
  split at h
  · split at h
    · simp only [require_next] at h
      obtain ⟨-, -, -, -, h⟩ := h
      exact .of_next h (.trans (t := { s with pins := { s.pins with connect := false } }) {} (.trans (quiet_leaveProbe _) {}))
    all_goals simp at h
  · exact .of_next h {}

theorem quiet_onConnectAssert {s t : State} (h : onConnectAssert s = .next t) : Quiet s t := by
  obtain ⟨-, h⟩ := require_next.1 h
  have hc : Quiet s { s with pins := { s.pins with connect := true } } := {}
  split at h
  · split at h
    · split at h
      · exact .of_next h (hc.trans (quiet_raiseProcrdy _))
      · exact .of_next (require_next.1 h).2 (hc.trans ((quiet_raiseProcrdy _).trans (quiet_enterProbe _)))
    · exact .of_next h hc
    · exact .of_next h hc
    · exact .of_next h hc
    · simp at h
  · exact .of_next h (hc.trans (quiet_sampleConnect _))

theorem quiet_onClkfwdrstAssert {s t : State} (h : onClkfwdrstAssert s = .next t) : Quiet s t := by
  obtain ⟨-, h⟩ := require_next.1 h
  split at h
  · exact .of_next (require_next.1 h).2 {}
  · exact .of_next h {}

theorem quiet_onClkfwdrstDeassert {s t : State} (h : onClkfwdrstDeassert s = .next t) : Quiet s t := by
  obtain ⟨-, h⟩ := require_next.1 h
  split at h
  · exact .of_next (require_next.1 (require_next.1 h).2).2 {}
  · exact .of_next h {}

theorem quiet_onProbe {s t : State} {p : Opaque} (h : onProbe p s = .next t) : Quiet s t := by
  simp only [onProbe, require_next] at h
  obtain ⟨-, -, h⟩ := h
  exact .of_next h { cycles := by simp [State.cycles, OutEvent.cycle?] }

theorem quiet_onResetDeassert {s t : State} (h : onResetDeassert s = .next t) : Quiet s t := by
  simp only [onResetDeassert, require_next] at h
  obtain ⟨-, -, -, h⟩ := h
  exact .of_next h {}

theorem quiet_onNbReset {s t : State} {b : Bool} (h : onNbReset b s = .next t) : Quiet s t := by
  unfold onNbReset at h
  split at h
  · exact .of_next (require_next.1 h).2 {}
  · exact .of_next h {}

theorem quiet_onPwrokAssert {s t : State} (h : onPwrokAssert s = .next t) : Quiet s t := by
  simp only [onPwrokAssert, require_next] at h
  obtain ⟨-, -, -, -, h⟩ := h
  exact .of_next h {}

theorem quiet_onSampleFid {s t : State} (h : onSampleFid s = .next t) : Quiet s t := by
  unfold onSampleFid at h
  split at h <;> exact .of_next h {}

theorem quiet_onSipDone {s t : State} {cfg : SipConfig} (h : onSipDone cfg s = .next t) : Quiet s t := by
  simp only [onSipDone, require_next] at h
  obtain ⟨-, -, -, h⟩ := h
  obtain ⟨-, rfl⟩ := comeTo_next.1 h
  exact {}

theorem quiet_setVccCore {s t : State} {mv : Int} (h : setVccCore mv s = .next t) : Quiet s t := by
  rcases setVccCore_next h with ⟨-, -, h⟩ | ⟨-, -, h⟩ | ⟨-, rfl⟩
  · obtain ⟨-, rfl⟩ := onVccCoreOn_next.1 h; exact {}
  · obtain ⟨-, rfl⟩ := removeVccCore_next.1 h; exact {}
  · exact {}

theorem quiet_onRail {s t : State} {r : Rail} {mv : Int} {d : Nat} (h : onRail r mv d s = .next t) : Quiet s t := by
  obtain ⟨u, hu, h⟩ := andThen_next.1 (require_next.1 h).2
  refine .trans ?_ (quiet_letPass h)
  cases r
  case vccCore => exact quiet_setVccCore hu
  case vcca => refine .of_next hu ?_; split <;> exact {}
  all_goals exact .of_next hu (.refl s)

theorem quiet_onSysclkPeriod {s t : State} {ps : Nat} (h : onSysclkPeriod ps s = .next t) : Quiet s t := by
  obtain ⟨-, h⟩ := require_next.1 h
  split at h
  · exact .of_next (require_next.1 h).2 {}
  · exact .of_next h {}

theorem quiet_onBusWrite {s t : State} {a : Addr} {b : Byte} (h : onBusWrite a b s = .next t) : Quiet s t := by
  obtain ⟨-, rfl⟩ := busMaster_next.1 h
  exact {}

theorem quiet_onBusRead {s t : State} {a : Addr} (h : onBusRead a s = .next t) : Quiet s t := by
  obtain ⟨-, rfl⟩ := busMaster_next.1 h
  exact .refl s

theorem quiet_onSpeculate {s t : State} {c : Caches} (h : onSpeculate c s = .next t) : Quiet s t := by
  refine .of_next h ?_
  split
  · exact {}
  · exact .refl s

/-- A pin other than STPCLK# is released. -/
theorem quiet_onRelease {s t : State} {p : EventPin} (hp : p ≠ .stpclk) (h : onRelease p s = .next t) : Quiet s t := by
  cases p
  case stpclk => exact absurd rfl hp
  case reset => exact quiet_onResetDeassert h
  case flush => exact .of_next h (.refl s)
  all_goals exact .of_next h (quiet_markPin _ _ s)

/-! ### Events, edges of STPCLK# and the end of a probe -/

/-- An event is quiet, or takes effect in the resting state. -/
theorem onEvent_cases (k : Kind) (m : Opaque) (s : State) :
    Quiet s (onEvent k m s) ∨ onEvent k m s = takeOrLatch k m (leaveProbe s) := by
  unfold onEvent
  split
  · split
    · exact .inl (quiet_defer _ s)
    · exact .inr rfl
  · exact .inl (.refl s)

/-- So does STPCLK#'s assertion. -/
theorem onStpclkAssert_cases {s t : State} {c : StpclkCause} (h : onStpclkAssert c s = .next t) :
    Quiet s t ∨ t = stpclkEdge true (leaveProbe (markStpclk c s)) := by
  obtain ⟨-, h⟩ := require_next.1 h
  injection h with h; subst h
  have hm := quiet_markStpclk c s
  split
  · split
    · exact .inl (hm.trans (quiet_defer _ _))
    · exact .inr rfl
  · exact .inl hm

/-- And its deassertion. -/
theorem onStpclkDeassert_cases {s t : State} (h : onStpclkDeassert s = .next t) :
    Quiet s t ∨ t = stpclkEdge false (leaveProbe (markPin .stpclk false s)) := by
  obtain ⟨-, h⟩ := require_next.1 h
  have hm := quiet_markPin .stpclk false s
  have hl := hm.trans (quiet_leaveProbe (markPin .stpclk false s))
  split at h
  · split at h
    · exact .inl (.of_next h (hm.trans (quiet_defer _ _)))
    · simp only at h
      split at h
      · exact .inr (comeTo_next.1 (require_next.1 h).2).2.symm
      all_goals exact .inl (.of_next h hl)
  · exact .inl (.of_next h hm)

/-- The resting state when the probe has been serviced, before what was deferred takes effect. -/
def State.serviced (s : State) : State :=
  leaveProbe { s with
    deferred := [], pins := { s.pins with stpclk := levelBefore s.deferred s.pins.stpclk }
    env := { s.env with probeOutstanding := false } }

theorem serveDeferred_leaveProbe (s : State) :
    serveDeferred (leaveProbe { s with env := { s.env with probeOutstanding := false } }) = s.deferred.foldl serve s.serviced := by
  cases h : s.pm <;> simp [serveDeferred, State.serviced, leaveProbe, h]

theorem Inv.serviced_state {s : State} (hi : Inv s) : Inv s.serviced := hi.serviced.leaveProbe rfl

theorem quiet_serviced (s : State) : Quiet s s.serviced := .trans {} (quiet_leaveProbe _)

/-- The probes are serviced: what was deferred is served in the resting state. -/
theorem onProbeDone_next {s t : State} (h : onProbeDone s = .next t) :
    t = s.deferred.foldl serve s.serviced ∨ Quiet s t := by
  simp only [onProbeDone] at h
  split at h
  · obtain ⟨-, rfl⟩ := comeTo_next.1 h
    exact .inl (serveDeferred_leaveProbe s)
  · exact .inr (.of_next h {})

/-! ### What an input can do -/

/-- What an input other than a pulse does: something quiet, or one of the operations that may send a special cycle, open or answer an
invitation, or run instructions. -/
inductive Act : Input → State → State → Prop
  | quiet {i : Input} {s t : State} (h : Quiet s t) : Act i s t
  | own {r : Bool} {s t : State} (h : ownStep r s = .next t) : Act (.step r) s t
  | event {k : Kind} {m : Opaque} (n : Opaque) (s : State) : Act (k.input m) s (onEvent k n (k.mark s))
  | asserted {c : StpclkCause} {s t : State} (h : onStpclkAssert c s = .next t) : Act (.stpclkAssert c) s t
  | deasserted {i : Input} {s t : State} (hi : i = .stpclkDeassert ∨ i = .release .stpclk) (h : onStpclkDeassert s = .next t) : Act i s t
  | reset (s : State) : Act .resetAssert s (resetEffect s)
  | forwardClocks (tm : Times) {s : State} (hr : s.running = true) (hc : s.conn = .connectPending2) :
      Act .fwdclkStart s (forwardClocks { s with times := tm })
  | probeDone {s t : State} (h : onProbeDone s = .next t) : Act .probeDone s t

theorem act_event {s t : State} (k : Kind) (m : Opaque) (h : onInput (k.input m) s = .next t) : Act (k.input m) s t := by
  rw [onInput_kind] at h
  obtain ⟨-, rfl⟩ := comeTo_next.1 h
  exact .event _ s

theorem act_onFwdclkStart {s t : State} (h : onFwdclkStart s = .next t) : Act .fwdclkStart s t := by
  obtain ⟨hc, h⟩ := require_next.1 h
  simp only [Bool.and_eq_true, beq_iff_eq] at hc
  split at h
  · simp at h
  · simp only [require_next] at h
    obtain ⟨-, rfl⟩ := comeTo_next.1 h.2
    exact .forwardClocks _ hc.1 hc.2

theorem act_onInput {s t : State} {i : Input} (hi : ∀ p d, i ≠ .pulse p d) (h : onInput i s = .next t) : Act i s t := by
  cases i with
  | step => exact .own h
  | stpclkAssert => exact .asserted h
  | stpclkDeassert => exact .deasserted (.inl rfl) h
  | intr => exact act_event .intr 0 h
  | nmi => exact act_event .nmi 0 h
  | smi => exact act_event .smi 0 h
  | init => exact act_event .init 0 h
  | apicMsg m => exact act_event .apic m h
  | release p =>
    by_cases hp : p = .stpclk
    · subst hp; exact .deasserted (.inr rfl) h
    · exact .quiet (quiet_onRelease hp h)
  | pulse p d => exact absurd rfl (hi p d)
  | vector => exact .quiet (.of_next h {})
  | resetAssert =>
    obtain ⟨-, h⟩ := require_next.1 h
    injection h with h; subst h; exact .reset s
  | resetDeassert => exact .quiet (quiet_onResetDeassert h)
  | nbReset => exact .quiet (quiet_onNbReset h)
  | pwrokAssert => exact .quiet (quiet_onPwrokAssert h)
  | pwrokDeassert => exact .quiet (.of_next (require_next.1 (require_next.1 h).2).2 {})
  | sampleFid => exact .quiet (quiet_onSampleFid h)
  | sipDone => exact .quiet (quiet_onSipDone h)
  | connectDeassert => exact .quiet (quiet_onConnectDeassert h)
  | connectAssert => exact .quiet (quiet_onConnectAssert h)
  | clkfwdrstAssert => exact .quiet (quiet_onClkfwdrstAssert h)
  | clkfwdrstDeassert => exact .quiet (quiet_onClkfwdrstDeassert h)
  | fwdclkStart => exact act_onFwdclkStart h
  | probe => exact .quiet (quiet_onProbe h)
  | probeDone => exact .probeDone h
  | command => exact .quiet (.of_next (require_next.1 h).2 {})
  | dataMovement => exact .quiet (.of_next h {})
  | nbEnables => exact .quiet (.of_next h {})
  | busWrite => exact .quiet (quiet_onBusWrite h)
  | busRead a => exact .quiet (quiet_onBusRead (a := a) h)
  | a20m => exact .quiet (.of_next h (quiet_markPin _ _ s))
  | ignne => exact .quiet (.of_next h (quiet_markPin _ _ s))
  | tieOff => simp [onInput, onTieOff] at h
  | sysclk => exact .quiet (.of_next (require_next.1 h).2 {})
  | sysclkPeriod => exact .quiet (quiet_onSysclkPeriod h)
  | picclk => exact .quiet (.of_next (require_next.1 h).2 {})
  | supply33Good => exact .quiet (.of_next h {})
  | supply33Lost => exact .quiet (.of_next h {})
  | vccaGood => exact .quiet (.of_next h {})
  | vccCoreOn => obtain ⟨-, rfl⟩ := onVccCoreOn_next.1 h; exact .quiet {}
  | powerOff => obtain ⟨-, rfl⟩ := removeVccCore_next.1 h; exact .quiet {}
  | rail => exact .quiet (quiet_onRail h)
  | dieTemp => exact .quiet (.of_next (require_next.1 h).2 {})
  | elapse => exact .quiet (quiet_letPass h)
  | speculate => exact .quiet (quiet_onSpeculate h)

/-- Time passes, the schedule is read, free values are drawn: nothing else. -/
def Meanwhile (s t : State) : Prop := ∃ tm q n, t = { s with times := tm, inputs := q, free := n }

theorem Meanwhile.refl (s : State) : Meanwhile s s := ⟨s.times, s.inputs, s.free, rfl⟩

theorem Meanwhile.trans {s t u : State} (h : Meanwhile s t) (h' : Meanwhile t u) : Meanwhile s u := by
  obtain ⟨_, _, _, rfl⟩ := h
  obtain ⟨tm, q, n, rfl⟩ := h'
  exact ⟨tm, q, n, rfl⟩

theorem Meanwhile.quiet {s t : State} (h : Meanwhile s t) : Quiet s t := by
  obtain ⟨_, _, _, rfl⟩ := h
  exact {}

theorem Meanwhile.inv {s t : State} (h : Meanwhile s t) (hi : Inv s) : Inv t := by
  obtain ⟨_, _, _, rfl⟩ := h
  exact hi.update hi.mem hi.organised

theorem meanwhile_draw (s : State) : Meanwhile s { s with free := s.free + 1 } := ⟨s.times, s.inputs, _, rfl⟩

theorem meanwhile_letPass {s t : State} {d : Nat} (h : letPass d s = .next t) : Meanwhile s t := by
  obtain ⟨-, rfl⟩ := letPass_next.1 h
  exact ⟨_, s.inputs, s.free, rfl⟩

theorem meanwhile_noteAssert (p : EventPin) (n : Nat) (s : State) : Meanwhile s (noteAssert p n s) :=
  ⟨_, s.inputs, s.free, noteAssert_eq p n s⟩

/-- The input a pulse's assertion is. -/
def EventPin.asserting : EventPin → Input
  | .stpclk => .stpclkAssert .throttling
  | .init   => .init
  | .smi    => .smi
  | .nmi    => .nmi
  | .intr   => .intr
  | .reset  => .resetAssert
  | .a20m   => .a20m true
  | .ignne  => .ignne true
  | .flush  => .tieOff .flush

theorem onAssertPin_eq (p : EventPin) (s : State) : onAssertPin p s = onInput p.asserting s := by cases p <;> rfl

/-- The assertion of a pin and its release, with nothing but time before and between. -/
def Pulsed (p : EventPin) (s t : State) : Prop :=
  ∃ u v w, Meanwhile s u ∧ onInput p.asserting u = .next v ∧ Meanwhile v w ∧ onInput (.release p) w = .next t

theorem act_asserting {s t : State} {p : EventPin} (h : onInput p.asserting s = .next t) : Act p.asserting s t :=
  act_onInput (by cases p <;> simp [EventPin.asserting]) h

theorem act_release {s t : State} {p : EventPin} (h : onInput (.release p) s = .next t) : Act (.release p) s t :=
  act_onInput (by simp) h

/-- A pulse is the assertion and the release of its pin, or time alone. -/
theorem onPulse_cases {s t : State} {p : EventPin} {d : Nat} (h : onPulse p d s = .next t) :
    Meanwhile s t ∨ Pulsed p s t := by
  have seen : ∀ r, Meanwhile s r → seenPulse p d r = .next t → Pulsed p s t := by
    intro r hr h
    obtain ⟨u, hu, h⟩ := andThen_next.1 h
    obtain ⟨v, hv, h⟩ := andThen_next.1 h
    obtain ⟨w, hw, h⟩ := andThen_next.1 h
    rw [onAssertPin_eq] at hv
    exact ⟨u, v, w, hr.trans (meanwhile_letPass hu), hv, (meanwhile_noteAssert p _ v).trans (meanwhile_letPass hw), h⟩
  obtain ⟨-, h⟩ := require_next.1 h
  split at h
  · exact .inr (seen s (.refl s) h)
  · split at h
    · exact .inr (seen _ (meanwhile_draw s) h)
    · exact .inl ((meanwhile_draw s).trans ((meanwhile_noteAssert p _ _).trans (meanwhile_letPass h)))

/-- With no input left the processor's own step is the one that recognises STPCLK#, or the one that does not. -/
theorem ownStepFree_cases {s t : State} (h : ownStepFree s = .next t) : ∃ r u, Meanwhile s u ∧ ownStep r u = .next t := by
  unfold ownStepFree at h
  split at h
  · exact ⟨_, _, meanwhile_draw s, h⟩
  · exact ⟨false, s, .refl s, by simpa [ownStep] using h⟩

/-- Everything a step can be: one act, of the input at the head of the schedule or the processor's own; or a pulse's two; or nothing. -/
theorem step_cases {s t : State} (h : step s = .next t) :
    Meanwhile s t ∨
    (∃ i u, (s.inputs.head? = some i ∨ s.inputs = [] ∧ ∃ r, i = .step r) ∧ Meanwhile s u ∧ Act i u t) ∨
    ∃ p d, s.inputs.head? = some (.pulse p d) ∧ Pulsed p s t := by
  cases hq : s.inputs with
  | nil =>
    rw [step_nil hq] at h
    obtain ⟨r, u, hu, h⟩ := ownStepFree_cases h
    exact .inr (.inl ⟨.step r, u, .inr ⟨rfl, r, rfl⟩, hu, .own h⟩)
  | cons i is =>
    rw [step_cons hq] at h
    have hs : Meanwhile s { s with inputs := is } := ⟨s.times, is, s.free, rfl⟩
    by_cases hp : ∃ p d, i = .pulse p d
    · obtain ⟨p, d, rfl⟩ := hp
      rcases onPulse_cases h with ht | ⟨u, v, w, hu, hrest⟩
      · exact .inl (hs.trans ht)
      · exact .inr (.inr ⟨p, d, rfl, u, v, w, hs.trans hu, hrest⟩)
    · exact .inr (.inl ⟨i, _, .inl rfl, hs, act_onInput (fun p d hi => hp ⟨p, d, hi⟩) h⟩)

/-- The processor's own step recognises an asserted STPCLK#, or does its own work. -/
theorem ownStep_cases {s t : State} {r : Bool} (h : ownStep r s = .next t) :
    s.stpclkPending = true ∧ t = recogniseStpclk s ∨ ownWork s = .next t := by
  unfold ownStep at h
  split at h
  · rename_i hb
    injection h with h
    exact .inl ⟨(Bool.and_eq_true_iff.1 hb).2, h.symm⟩
  · exact .inr h

/-- Its own work is an edge of PROCRDY, or nothing, or what happens at an instruction boundary in Working. -/
theorem ownWork_cases {s t : State} (h : ownWork s = .next t) :
    Quiet s t ∨ s.pm = .working ∧ atBoundary s = .next t := by
  unfold ownWork at h
  split at h
  · split at h
    · exact .inl (.of_next h (quiet_dropProcrdy s))
    · refine .inl (.of_next h ?_)
      split
      · exact quiet_raiseProcrdy s
      · exact .refl s
    · split at h
      · rename_i hp
        exact .inr ⟨by simpa using hp, h⟩
      · exact .inl (.of_next h (.refl s))
    all_goals exact .inl (.of_next h (.refl s))
  · exact .inl (.of_next h (.refl s))

end Sys2Proof.Machine
end

section
/-! PROOFS. Outside Working no instruction executes (40_power_states.md R157 (f)). Then the statement. -/

namespace Sys2Proof.Machine

/-! ### Outside Working no register changes -/

/-- Outside Working there is nothing to stay in. -/
theorem Idle.of_ne {s t : State} (hp : s.pm ≠ .working)
    (h : t.pm ≠ .working → t.x86 = s.x86 ∧ t.clkCtl = s.clkCtl ∧ t.part = s.part ∧ t.sip = s.sip := by simp) : Idle s t :=
  ⟨fun hw => absurd hw hp, h⟩

/-- Entering Working is no change outside it. -/
theorem Idle.of_working {s t : State} (h : t.pm = .working) : Idle s t := ⟨fun _ => h, fun hn => absurd h hn⟩

theorem idle_wakeUp {k : State → State} {s : State} (hk : ∀ u, u.pm = s.pm → Idle u (k u)) : Idle s (wakeUp k s) := by
  unfold wakeUp
  split
  · exact .trans {} (hk (cancelDisconnect s) (by simp))
  · exact {}

theorem idle_finishHalt (s : State) : Idle s (finishHalt s) := .of_working (by simp [finishHalt])

theorem idle_finishStopGrant {s : State} (hp : s.pm ≠ .working) : Idle s (finishStopGrant s) := by
  unfold finishStopGrant returnToHalt
  split
  · have hh : Idle s (reenterHalt s) := .of_ne hp
    split
    · exact hh.trans (idle_wakeUp fun u _ => idle_finishHalt u)
    · exact hh
  · exact .of_working (by simp)

theorem idle_finishPending (s : State) : Idle s (finishPending s) := by
  unfold finishPending
  split
  · exact idle_finishHalt s
  · split
    · exact {}
    · exact idle_finishStopGrant (by simp [*])
  · exact {}
  · exact {}

theorem idle_stopGrantFromHalt {s : State} (hp : s.pm ≠ .working) : Idle s (stopGrantFromHalt s) :=
  .trans (t := { s with pm := .stopGrant, sgFromHalt := true, oweSg := true }) (.of_ne hp) (idle_wakeUp fun _ _ => {})

theorem idle_stpclkEdge (b : Bool) (s : State) : Idle s (stpclkEdge b s) := by
  unfold stpclkEdge
  split
  · exact idle_stopGrantFromHalt (by simp [*])
  · rename_i hp
    exact idle_wakeUp fun u hu => idle_finishStopGrant (by simp [hu, hp])
  all_goals exact {}

theorem idle_takeOrLatch (k : Kind) (m : Opaque) (s : State) : Idle s (takeOrLatch k m s) := by
  unfold takeOrLatch
  split
  · exact .of_working (by simp [*])
  · exact (quiet_latch k m s).toIdle.trans (idle_wakeUp fun u _ => idle_finishHalt u)
  · exact (quiet_latch k m s).toIdle
  · exact {}

theorem idle_onEvent (k : Kind) (m : Opaque) (s : State) : Idle s (onEvent k m s) := by
  rcases onEvent_cases k m s with h | h
  · exact h.toIdle
  · exact h ▸ (quiet_leaveProbe s).toIdle.trans (idle_takeOrLatch k m _)

theorem idle_serve (s : State) (d : Deferred) : Idle s (serve s d) := by
  cases d with
  | event k m => exact idle_takeOrLatch k m s
  | stpclk b => exact .trans (t := { s with pins := { s.pins with stpclk := b } }) {} (idle_stpclkEdge b _)

theorem idle_serveAll (ds : List Deferred) (s : State) : Idle s (ds.foldl serve s) := by
  induction ds generalizing s with
  | nil => exact {}
  | cons d ds ih => exact (idle_serve s d).trans (ih _)

theorem idle_onStpclkAssert {s t : State} {c : StpclkCause} (h : onStpclkAssert c s = .next t) : Idle s t := by
  rcases onStpclkAssert_cases h with h | rfl
  · exact h.toIdle
  · exact (quiet_markStpclk c s).toIdle.trans ((quiet_leaveProbe _).toIdle.trans (idle_stpclkEdge true _))

theorem idle_onStpclkDeassert {s t : State} (h : onStpclkDeassert s = .next t) : Idle s t := by
  rcases onStpclkDeassert_cases h with h | rfl
  · exact h.toIdle
  · exact (quiet_markPin .stpclk false s).toIdle.trans ((quiet_leaveProbe _).toIdle.trans (idle_stpclkEdge false _))

theorem idle_forwardClocks (s : State) : Idle s (forwardClocks s) := by
  unfold forwardClocks
  simp only
  split
  · exact .trans {} (idle_finishPending _)
  · exact {}

theorem idle_onProbeDone {s t : State} (h : onProbeDone s = .next t) : Idle s t := by
  rcases onProbeDone_next h with rfl | h
  · exact (quiet_serviced s).toIdle.trans (idle_serveAll _ _)
  · exact h.toIdle

theorem idle_recogniseStpclk {s : State} (hp : s.pm ≠ .working) : Idle s (recogniseStpclk s) := by
  unfold recogniseStpclk
  split
  · contradiction
  · exact idle_stopGrantFromHalt hp
  · exact {}
  · exact {}

/-- No input but the processor's own step in Working runs instructions. -/
theorem Act.idle {i : Input} {s t : State} (h : Act i s t) (hi : s.pm = .working → ∀ r, i ≠ .step r) : Idle s t := by
  cases h with
  | quiet h => exact h.toIdle
  | own h =>
    have hp : s.pm ≠ .working := fun hp => hi hp _ rfl
    rcases ownStep_cases h with ⟨-, rfl⟩ | h
    · exact idle_recogniseStpclk hp
    · rcases ownWork_cases h with h | ⟨hw, -⟩
      · exact h.toIdle
      · exact absurd hw hp
  | event n => exact (quiet_mark _ s).toIdle.trans (idle_onEvent _ n _)
  | asserted h => exact idle_onStpclkAssert h
  | deasserted _ h => exact idle_onStpclkDeassert h
  | reset => exact .of_working rfl
  | forwardClocks tm => exact .trans (t := { s with times := tm }) {} (idle_forwardClocks _)
  | probeDone h => exact idle_onProbeDone h

/-- A step outside Working runs none. -/
theorem idle_step {s t : State} (hp : s.pm ≠ .working) (h : step s = .next t) : Idle s t := by
  rcases step_cases h with hs | ⟨i, u, -, hu, ha⟩ | ⟨p, d, -, u, v, w, hu, ha, hv, hr⟩
  · exact hs.quiet.toIdle
  · have hu' : u.pm ≠ .working := by obtain ⟨_, _, _, rfl⟩ := hu; exact hp
    exact hu.quiet.toIdle.trans (ha.idle fun hw => absurd hw hu')
  · exact hu.quiet.toIdle.trans (((act_asserting ha).idle fun _ r => by cases p <;> simp [EventPin.asserting]).trans
      (hv.quiet.toIdle.trans ((act_release hr).idle fun _ r => by simp)))

end Sys2Proof.Machine

namespace Sys2Proof.Proofs

open Sys2Proof.Machine

/-- Settles O56: every act outside Working leaves the registers as they were, or enters Working. -/
theorem nothingExecutesOutsideWorking : Obligations.NothingExecutesOutsideWorking := by
  unfold Obligations.NothingExecutesOutsideWorking
  intro s t _ hp h ht
  exact (idle_step hp h).kept ht

end Sys2Proof.Proofs
end

section
/-! PROOFS. The balance of invitations and Connect special cycles (40_power_states.md R157 (e)). Then the statement. -/

namespace Sys2Proof.Machine

/-! ### The special cycles each operation sends -/

@[simp] theorem emit_cycles (e : OutEvent) (s : State) : (emit e s).cycles = s.cycles ++ e.cycle?.toList := by
  cases h : e.cycle? <;> simp [State.cycles, h]

@[simp] theorem emitCycle_cycles (k : Cycle) (s : State) : (emitCycle k s).cycles = s.cycles ++ [k] := emit_cycles _ s

@[simp] theorem takeEvent_cycles (k : Kind) (m : Opaque) (s : State) : (takeEvent k m s).cycles = s.cycles := by
  simp only [State.cycles, takeEvent_out, List.filterMap_append]
  split <;> simp [OutEvent.cycle?]

@[simp] theorem deliver_cycles (k : Kind) (m : Opaque) (s : State) : (deliver k m s).cycles = s.cycles := by
  simp only [State.cycles, deliver_out, List.filterMap_append]
  split <;> simp [OutEvent.cycle?]

@[simp] theorem deliverLatched_cycles (s : State) : (deliverLatched s).cycles = s.cycles := by
  simp only [State.cycles, deliverLatched_out, State.latchedAck, List.filterMap_append]
  split <;> simp [OutEvent.cycle?]

@[simp] theorem cancelDisconnect_cycles (s : State) :
    (cancelDisconnect s).cycles = s.cycles ++ if s.discReq then [.connect] else [] := by
  simp only [State.cycles, cancelDisconnect_out]
  split <;> simp [OutEvent.cycle?]

@[simp] theorem enterHalt_cycles (s : State) : (enterHalt s).cycles = s.cycles ++ [.halt] := emitCycle_cycles _ s

@[simp] theorem enterStopGrant_cycles (s : State) : (enterStopGrant s).cycles = s.cycles ++ [.stopGrant] := emitCycle_cycles _ s

@[simp] theorem reenterHalt_cycles (s : State) : (reenterHalt s).cycles = s.cycles ++ [.halt] := emitCycle_cycles _ s

@[simp] theorem finishOwedStopGrant_cycles (s : State) : (finishOwedStopGrant s).cycles = s.cycles ++ [.stopGrant] :=
  emitCycle_cycles _ s

theorem sameAccount_deliverLatched (s : State) : SameAccount s (deliverLatched s) where
  cycles := by simp

theorem sameAccount_finishHalt (s : State) : SameAccount s (finishHalt s) :=
  .trans {} (sameAccount_deliverLatched { s with pm := .working })

/-! ### The balance of invitations and Connect special cycles -/

theorem unanswered_eq_zero {s : State} : s.unanswered = 0 ↔ s.discReq = false ∧ s.wake = false := by
  simp [State.unanswered]

/-- What the balance needs of a state: nothing is open in Working, something is open outside it, and no Connect special cycle is owed
while the bus operates. -/
structure State.Accounted (s : State) : Prop where
  working : s.pm = .working → s.unanswered = 0
  waiting : s.pm ≠ .working → s.discReq = !s.wake
  up : s.busUp = true → s.wake = false

theorem Inv.accounted {s : State} (hi : Inv s) : s.Accounted where
  working hp := unanswered_eq_zero.2 (by simpa [hp] using hi.invited)
  waiting hp := by simpa [hp] using hi.invited
  up hb := (hi.up hb).1

/-- It is kept where the account and the bus are, and Working is neither left nor entered. -/
theorem State.Accounted.congr {s t : State} (ha : s.Accounted) (hc : SameAccount s t) (hb : t.conn = s.conn)
    (hp : t.pm = .working ↔ s.pm = .working) : t.Accounted where
  working h := hc.unanswered.trans (ha.working (hp.1 h))
  waiting h := by rw [hc.discReq, hc.wake]; exact ha.waiting (mt hp.2 h)
  up h := by rw [hc.wake]; exact ha.up ((busUp_congr hb).symm.trans h)

theorem balanced_cancelDisconnect {s : State} (hw : s.wake = false) : Balanced s (cancelDisconnect s) := by
  cases h : s.discReq
  · simp [Balanced, State.invitations, State.unanswered, hw, h]
  · simp [Balanced, State.invitations, State.unanswered, hw, h]
    omega

theorem unanswered_cancelDisconnect {s : State} (hw : s.wake = false) : (cancelDisconnect s).unanswered = 0 :=
  unanswered_eq_zero.2 (by simp [hw])

/-- A wake-up event: what is open is answered and `k` goes on with nothing open, or it stays open. -/
theorem balanced_wakeUp {k : State → State} {s : State} (hreq : s.discReq = !s.wake) (hup : s.busUp = true → s.wake = false)
    (hk : ∀ u, u.conn = .connected → u.unanswered = 0 → Balanced u (k u)) : Balanced s (wakeUp k s) := by
  unfold wakeUp
  split
  · rename_i hb
    exact (balanced_cancelDisconnect (hup hb)).trans (hk _ (by simp) (unanswered_cancelDisconnect (hup hb)))
  · simp [Balanced, State.invitations, State.unanswered, State.cycles, hreq]

theorem balanced_finishOwedStopGrant {s : State} (h : s.unanswered = 0) : Balanced s (finishOwedStopGrant s) := by
  simp [Balanced, State.invitations, h]
  simp [State.unanswered]; omega

theorem balanced_reenterHalt {s : State} (h : s.unanswered = 0) : Balanced s (reenterHalt s) := by
  simp [Balanced, State.invitations, h]
  simp [State.unanswered]; omega

theorem balanced_enterHalt {s : State} (h : s.unanswered = 0) : Balanced s (enterHalt s) := by
  simp [Balanced, State.invitations, h]
  simp [State.unanswered]; omega

theorem balanced_enterStopGrant {s : State} (h : s.unanswered = 0) : Balanced s (enterStopGrant s) := by
  simp [Balanced, State.invitations, h]
  simp [State.unanswered]; omega

theorem balanced_finishStopGrant {s : State} (h : s.unanswered = 0) : Balanced s (finishStopGrant s) := by
  have hw : s.wake = false := (unanswered_eq_zero.1 h).2
  unfold finishStopGrant returnToHalt
  split
  · split
    · exact (balanced_reenterHalt h).trans (balanced_wakeUp (by simp [hw]) (fun _ => by simpa using hw)
        fun u _ _ => (sameAccount_finishHalt u).balanced)
    · exact balanced_reenterHalt h
  · exact (SameAccount.trans {} (sameAccount_deliverLatched { s with pm := .working })).balanced

theorem balanced_stopGrantFromHalt {s : State} (hreq : s.discReq = !s.wake) (hup : s.busUp = true → s.wake = false) :
    Balanced s (stopGrantFromHalt s) :=
  .trans (t := { s with pm := .stopGrant, sgFromHalt := true, oweSg := true }) (SameAccount.balanced {})
    (balanced_wakeUp hreq hup fun _ _ h => balanced_finishOwedStopGrant h)

theorem balanced_stpclkEdge {s : State} (ha : s.Accounted) (b : Bool) : Balanced s (stpclkEdge b s) := by
  have hw : ∀ p : Power, s.pm = p → p ≠ .working → s.discReq = !s.wake := fun p hp hne => ha.waiting (hp ▸ hne)
  unfold stpclkEdge
  split
  · exact balanced_stopGrantFromHalt (hw .halt ‹_› (by decide)) ha.up
  · exact balanced_wakeUp (hw .stopGrant ‹_› (by decide)) ha.up fun _ _ h => balanced_finishStopGrant h
  all_goals exact SameAccount.balanced {}

theorem balanced_takeOrLatch {s : State} (ha : s.Accounted) (k : Kind) (m : Opaque) : Balanced s (takeOrLatch k m s) := by
  unfold takeOrLatch
  split
  · exact SameAccount.balanced { cycles := by simp }
  · rename_i hp
    exact (quiet_latch k m s).balanced.trans (balanced_wakeUp (ha.waiting (by simp [hp])) ha.up
      fun u _ _ => (sameAccount_finishHalt u).balanced)
  · exact (quiet_latch k m s).balanced
  · exact SameAccount.balanced {}

theorem State.Accounted.leaveProbe {s : State} (ha : s.Accounted) : (leaveProbe s).Accounted := by
  refine ha.congr (quiet_leaveProbe s).toSameAccount (by simp) ⟨leaveProbe_working, fun h => ?_⟩
  rw [leaveProbe_of_ne (by simp [h]), h]

theorem State.Accounted.markPin {s : State} (ha : s.Accounted) (p : EventPin) (b : Bool) : (markPin p b s).Accounted :=
  ha.congr (quiet_markPin p b s).toSameAccount (by simp) (by simp)

theorem balanced_onEvent {s : State} (ha : s.Accounted) (k : Kind) (m : Opaque) : Balanced s (onEvent k m s) := by
  rcases onEvent_cases k m s with h | h
  · exact h.balanced
  · exact h ▸ (quiet_leaveProbe s).balanced.trans (balanced_takeOrLatch ha.leaveProbe k m)

theorem balanced_onStpclkAssert {s t : State} (ha : s.Accounted) {c : StpclkCause} (h : onStpclkAssert c s = .next t) :
    Balanced s t := by
  have hm := quiet_markStpclk c s
  have ham : (markStpclk c s).Accounted := ha.congr hm.toSameAccount rfl Iff.rfl
  rcases onStpclkAssert_cases h with h | rfl
  · exact h.balanced
  · exact (hm.trans (quiet_leaveProbe _)).balanced.trans (balanced_stpclkEdge ham.leaveProbe true)

theorem balanced_onStpclkDeassert {s t : State} (ha : s.Accounted) (h : onStpclkDeassert s = .next t) : Balanced s t := by
  rcases onStpclkDeassert_cases h with h | rfl
  · exact h.balanced
  · exact ((quiet_markPin .stpclk false s).trans (quiet_leaveProbe _)).balanced.trans
      (balanced_stpclkEdge (ha.markPin .stpclk false).leaveProbe false)

theorem balanced_serve {s : State} (ha : s.Accounted) (d : Deferred) : Balanced s (serve s d) := by
  cases d with
  | event k m => exact balanced_takeOrLatch ha k m
  | stpclk b =>
    exact .trans (t := { s with pins := { s.pins with stpclk := b } }) (SameAccount.balanced {})
      (balanced_stpclkEdge (s := { s with pins := { s.pins with stpclk := b } }) ⟨ha.working, ha.waiting, ha.up⟩ b)

theorem balanced_serveAll {ds : List Deferred} {s : State} (hi : Inv s) (h : ds ≠ [] → s.conn = .connected ∧ s.pm ≠ .probe) :
    Balanced s (ds.foldl serve s) := by
  induction ds generalizing s with
  | nil => exact SameAccount.balanced {}
  | cons d ds ih =>
    obtain ⟨hc, hp⟩ := h (by simp)
    exact (balanced_serve hi.accounted d).trans (ih (hi.serve hc hp d) fun _ => serve_connected hc hp d)

theorem balanced_onProbeDone {s t : State} (hi : Inv s) (h : onProbeDone s = .next t) : Balanced s t := by
  rcases onProbeDone_next h with rfl | hq
  · refine (quiet_serviced s).balanced.trans (balanced_serveAll hi.serviced_state fun hne => ⟨?_, leaveProbe_ne _⟩)
    simpa [State.serviced] using (hi.deferring hne).2.1
  · exact hq.balanced

theorem balanced_finishPending {s : State} (h : s.unanswered = 0) : Balanced s (finishPending s) := by
  unfold finishPending
  split
  · exact (sameAccount_finishHalt s).balanced
  · split
    · exact balanced_finishOwedStopGrant h
    · exact balanced_finishStopGrant h
  · exact SameAccount.balanced {}
  · exact SameAccount.balanced {}

/-- Condition 6 (41_connect_protocol.md R185): the Connect special cycle that was owed is sent, then the pending rule is completed. -/
theorem balanced_forwardClocks {s : State} (hreq : s.wake = true → s.discReq = false) : Balanced s (forwardClocks s) := by
  unfold forwardClocks
  simp only
  split
  · rename_i hw
    have hw : s.wake = true := hw
    refine .trans ?_ (balanced_finishPending (unanswered_eq_zero.2 ⟨hreq hw, rfl⟩))
    simp [Balanced, State.invitations, State.unanswered, hw, hreq hw, State.cycles, OutEvent.cycle?]
    omega
  · exact SameAccount.balanced {}

/-! ### Instructions and the account -/

/-- Instructions send HLT's Halt special cycle, which invites a disconnect, or nothing. -/
def MayHalt (s t : State) : Prop := ∃ u, SameAccount s u ∧ (t = u ∨ t = enterHalt u)

theorem SameAccount.mayHalt {s t : State} (h : SameAccount s t) : MayHalt s t := ⟨t, h, .inl rfl⟩

theorem SameAccount.trans_mayHalt {s t u : State} (h : SameAccount s t) (h' : MayHalt t u) : MayHalt s u := by
  obtain ⟨v, hv, hu⟩ := h'
  exact ⟨v, h.trans hv, hu⟩

theorem mayHalt_exec {s t : State} (i : Instr) (h : exec i s = .next t) : MayHalt s t := by
  cases i
  case hlt =>
    obtain ⟨-, h⟩ := require_next.1 h
    injection h with h; subst h
    split
    · exact ⟨advance .hlt s, {}, .inr rfl⟩
    · exact SameAccount.mayHalt {}
  case cpuid => injection h with h; subst h; exact SameAccount.mayHalt {}
  case rdmsr =>
    simp only [exec, execRdmsr] at h
    split at h <;> injection h with h <;> subst h <;> exact SameAccount.mayHalt {}
  case wrmsr =>
    simp only [exec, execWrmsr] at h
    split at h
    · obtain ⟨-, h⟩ := require_next.1 h
      injection h with h; subst h; exact SameAccount.mayHalt {}
    · injection h with h; subst h; exact SameAccount.mayHalt {}

theorem mayHalt_runForeign {s t : State} (h : runForeign s = .next t) : MayHalt s t := by
  unfold runForeign at h
  split at h
  · injection h with h; subst h; exact SameAccount.mayHalt {}
  · simp at h

theorem mayHalt_runDecoded {s t : State} (d : Decoded) (h : runDecoded d s = .next t) : MayHalt s t := by
  cases d
  case ours => exact mayHalt_exec _ h
  all_goals exact mayHalt_runForeign h

theorem mayHalt_fetchThen {s t : State} {k : Nat} {go : Byte → State → Result}
    (hgo : ∀ b u, go b u = .next t → MayHalt u t) (h : fetchThen k go s = .next t) : MayHalt s t := by
  rcases fetchThen_next h with rfl | ⟨b, n, h⟩
  · exact SameAccount.mayHalt {}
  · exact SameAccount.trans_mayHalt {} (hgo b { s with free := n } h)

theorem mayHalt_atBoundary {s t : State} (h : atBoundary s = .next t) : MayHalt s t := by
  unfold atBoundary at h
  split at h
  · injection h with h; subst h; exact SameAccount.mayHalt { cycles := by simp }
  · refine mayHalt_fetchThen (fun b u h => ?_) h
    split at h
    · exact mayHalt_fetchThen (fun c v h => mayHalt_runDecoded _ h) h
    · exact mayHalt_runDecoded _ h

theorem MayHalt.balanced {s t : State} (h : MayHalt s t) (h0 : s.unanswered = 0) : Balanced s t := by
  obtain ⟨u, hu, rfl | rfl⟩ := h
  · exact hu.balanced
  · exact hu.balanced.trans (balanced_enterHalt (hu.unanswered.trans h0))

/-! ### Every step keeps the balance -/

theorem balanced_recogniseStpclk {s : State} (ha : s.Accounted) : Balanced s (recogniseStpclk s) := by
  unfold recogniseStpclk
  split
  · exact balanced_enterStopGrant (ha.working ‹_›)
  · exact balanced_stopGrantFromHalt (ha.waiting (by simp [*])) ha.up
  · exact SameAccount.balanced {}
  · exact SameAccount.balanced {}

/-- Every act but RESET#'s in a run, which clears the account (92 D10). -/
theorem Act.balanced {i : Input} {s t : State} (h : Act i s t) (hi : Inv s) (hr : i = .resetAssert → s.rst = .run → t.rst = .run) :
    Balanced s t := by
  have ha := hi.accounted
  cases h with
  | quiet h => exact h.balanced
  | own h =>
    rcases ownStep_cases h with ⟨-, rfl⟩ | h
    · exact balanced_recogniseStpclk ha
    · rcases ownWork_cases h with h | ⟨hp, h⟩
      · exact h.balanced
      · exact (mayHalt_atBoundary h).balanced (ha.working hp)
  | event n =>
    rename_i k m
    exact (quiet_mark k s).balanced.trans (balanced_onEvent (ha.congr (quiet_mark k s).toSameAccount (by simp) (by simp)) k n)
  | asserted h => exact balanced_onStpclkAssert ha h
  | deasserted _ h => exact balanced_onStpclkDeassert ha h
  | reset =>
    have hn : s.rst ≠ .run := fun h => by simpa [resetEffect] using hr rfl h
    obtain ⟨hreq, hw⟩ := unanswered_eq_zero.1 (ha.working (hi.cleared hn).1)
    exact SameAccount.balanced ⟨rfl, hreq.symm, hw.symm⟩
  | forwardClocks tm _ hc =>
    have hp : s.pm ≠ .working := fun hp => by have := hi.working hp; simp_all
    refine .trans (t := { s with times := tm }) (SameAccount.balanced {}) (balanced_forwardClocks fun hw => ?_)
    rw [ha.waiting hp]; simpa using hw
  | probeDone h => exact balanced_onProbeDone hi h

theorem onResetDeassert_rst {s t : State} (h : onResetDeassert s = .next t) : t.rst = .sip := by
  simp only [onResetDeassert, require_next] at h
  obtain ⟨-, -, -, h⟩ := h
  injection h with h
  exact h ▸ rfl

theorem Pulsed.balanced {p : EventPin} {s t : State} (h : Pulsed p s t) (hi : Inv s) (hr : s.rst = .run → t.rst = .run) :
    Balanced s t := by
  obtain ⟨u, v, w, hu, ha, hv, ht⟩ := h
  have hiu := hu.inv hi
  have hiw := hv.inv (hiu.onInput _ ha)
  have hrst : u.rst = s.rst := by obtain ⟨_, _, _, rfl⟩ := hu; rfl
  refine hu.quiet.balanced.trans (((act_asserting ha).balanced hiu fun hp hrun => ?_).trans
    (hv.quiet.balanced.trans ((act_release ht).balanced hiw (by simp))))
  cases p <;> simp [EventPin.asserting] at hp
  have hsip : t.rst = .sip := onResetDeassert_rst ht
  simp [hr (hrst ▸ hrun)] at hsip

theorem balanced_step {s t : State} (hi : Inv s) (h : step s = .next t) (hr : s.rst = .run → t.rst = .run) : Balanced s t := by
  rcases step_cases h with hs | ⟨i, u, -, hu, ha⟩ | ⟨p, d, -, hp⟩
  · exact hs.quiet.balanced
  · have hrst : u.rst = s.rst := by obtain ⟨_, _, _, rfl⟩ := hu; rfl
    exact hu.quiet.balanced.trans (ha.balanced (hu.inv hi) fun _ => hrst ▸ hr)
  · exact hp.balanced hi hr

end Sys2Proof.Machine

namespace Sys2Proof.Proofs

open Sys2Proof.Machine

/-- Settles O59: each act keeps the balance, but for a RESET# that leaves the run phase. -/
theorem oneConnectCyclePerInvitation : Obligations.OneConnectCyclePerInvitation := by
  intro s t hi h hr
  exact ⟨balanced_step hi h hr, hi.accounted.working⟩

end Sys2Proof.Proofs
end

section
/-! PROOFS. The processor's own step in Working, and the Northbridge's connect and probes. Then the statements of this family. -/

namespace Sys2Proof.Machine

/-! ### An instruction boundary in Working -/

/-- The processor's own step does not recognise STPCLK#: the input says so, or STPCLK# is not asserted; `is` is what is left of the
schedule. -/
def State.goesOn (s : State) (is : List Input) : Prop :=
  s.inputs = .step false :: is ∨ s.pins.stpclk = false ∧ (s.inputs = .step true :: is ∨ s.inputs = [] ∧ is = [])

/-- Then a connected Working state with no INTR due runs an instruction. -/
theorem step_runInstruction {s : State} {is : List Input} (hr : s.running = true) (hp : s.pm = .working) (hc : s.conn = .connected)
    (hi : s.intrPending = false ∨ s.x86.intrMasked = true) (hg : s.goesOn is) :
    step s = runInstruction { s with inputs := is } := by
  have own : ∀ r, s.inputs = .step r :: is → (r = false ∨ s.pins.stpclk = false) → step s = runInstruction { s with inputs := is } :=
    fun r hq hb => calc
      step s = ownStep r { s with inputs := is } := step_cons hq
      _ = atBoundary { s with inputs := is } := ownStep_boundary hr hp hc hb
      _ = _ := atBoundary_none hi
  rcases hg with hq | ⟨hk, hq | ⟨hq, rfl⟩⟩
  · exact own false hq (.inl rfl)
  · exact own true hq (.inr hk)
  · have hs : { s with inputs := [] } = s := by rw [← hq]
    have hn : s.stpclkPending = false := by simp [State.stpclkPending, hk]
    calc
      step s = ownStepFree s := step_nil hq
      _ = atBoundary s := by simp [ownStepFree, hn, ownWork_working hr hp hc]
      _ = _ := by rw [atBoundary_none hi, hs]

/-- The byte a fetch gets at a physical address, and the state after it: the environment's answer is one draw. -/
def State.fetched (s : State) (a : Nat) : Byte × State :=
  match s.codeByte a with
  | some b => (b, s)
  | none   => (Config.environmentByte s.free a, { s with free := s.free + 1 })

theorem fetchThen_fetched {k a : Nat} {go : Byte → State → Result} {s v : State} {b : Byte} (ha : fetchAddr s k = some a)
    (hf : s.fetched a = (b, v)) : fetchThen k go s = go b v := by
  cases hb : s.codeByte a <;> simp only [State.fetched, hb, Prod.mk.injEq] at hf <;> obtain ⟨rfl, rfl⟩ := hf
  · exact fetchThen_environment ha hb
  · exact fetchThen_listed (by simp [ha, hb])

section
variable {s v : State} {a : Nat} {b : Byte} (ha : fetchAddr s 0 = some a)
include ha

theorem runInstruction_hlt (hf : s.fetched a = (0xF4#8, v)) : runInstruction s = exec .hlt v := fetchThen_fetched ha hf

theorem runInstruction_escape (hf : s.fetched a = (0x0F#8, v)) :
    runInstruction s = fetchThen 1 (fun c => runDecoded (decodeEscape c [])) v := fetchThen_fetched ha hf

theorem runInstruction_foreignOpcode (hf : s.fetched a = (b, v)) (hh : b ≠ 0xF4#8) (he : b ≠ 0x0F#8) :
    runInstruction s = runForeign v := by
  rw [runInstruction, fetchThen_fetched ha hf]
  simp [decode, hh, he, runDecoded]

end

theorem runDecoded_foreignEscape {c : Byte} (hw : c ≠ 0x30#8) (hr : c ≠ 0x32#8) (hc : c ≠ 0xA2#8) (s : State) :
    runDecoded (decodeEscape c []) s = runForeign s := by
  simp [decodeEscape, hw, hr, hc, runDecoded]

/-! ### The Northbridge's connect and its probes -/

theorem State.inS1_of_resting {s : State} {r : Resting} (hp : s.pm = r.toPower) :
    s.inS1 = true ↔ r = .stopGrant ∧ s.env.stpclkCause = .sleepS1 := by
  cases r <;> simp [State.inS1, leaveProbe, hp, Resting.toPower]

/-- CONNECT asserted while disconnected (41_connect_protocol.md R185 condition 4, R189). -/
theorem onConnectAssert_disconnected {s : State} (hr : s.running = true) (hc : s.conn = .disconnected) (hn : s.pins.connect = false) :
    onConnectAssert s =
      if s.wake then .next (raiseProcrdy { s with pins := { s.pins with connect := true } })
      else require (!s.inS1) .probeInS1 (.next (enterProbe (raiseProcrdy { s with pins := { s.pins with connect := true } }))) := by
  simp only [onConnectAssert, hn, hr, hc]
  rfl

/-- A probe on a connected bus, outside ACPI S1. -/
theorem onProbe_connected {s : State} (p : Opaque) (hr : s.running = true) (hc : s.conn = .connected) (hs : s.inS1 = false) :
    onProbe p s = .next { s with
      cache := probeEffect s.cache s.pins.a20m p, out := s.out ++ [.probeResponse p]
      env := { s.env with probeOutstanding := true, probeDue := false }, times := { s.times with commandAt := some s.times.now } } := by
  simp [onProbe, hr, hc, hs, emit]

theorem onProbe_not_connected {s : State} (p : Opaque) (hc : s.conn ≠ .connected) :
    onProbe p s = .refused .probeWhileDisconnected := by
  have : (s.running && s.conn == .connected) = false := by simp [hc]
  rw [onProbe, this, require_false]

theorem onProbe_inS1 {s : State} (p : Opaque) (hr : s.running = true) (hc : s.conn = .connected) (hs : s.inS1 = true) :
    onProbe p s = .refused .probeInS1 := by
  simp [onProbe, hr, hc, hs]

theorem enterProbe_of_resting {s : State} {r : Resting} (hp : s.pm = r.toPower) :
    enterProbe s = { s with pm := .probe, probeRet := r } := by
  cases r <;> simp [enterProbe, hp, Resting.toPower]

end Sys2Proof.Machine

namespace Sys2Proof.Proofs

open Sys2Proof.Machine

/-- Settles O4: the boundary runs an instruction, and its bytes are found. -/
theorem stepRunsDecodedInstruction : Obligations.StepRunsDecodedInstruction := by
  intro s i _ hr hp hc hintr hbytes
  have run : ∀ is, s.goesOn is → step s = exec i { s with inputs := is } := fun is hg =>
    (step_runInstruction hr hp hc hintr hg).trans (runInstruction_ours hbytes)
  refine ⟨fun hq hk => ?_, fun is hq => run is (.inl hq), fun is hq hk => run is (.inr ⟨hk, .inl hq⟩)⟩
  have hs : { s with inputs := [] } = s := by rw [← hq]
  exact hs ▸ run [] (.inr ⟨hk, .inr ⟨hq, rfl⟩⟩)

/-- Settles O5, along the bytes the fetches get. -/
theorem stepLeavesOtherBytesToX86 : Obligations.StepLeavesOtherBytesToX86 := by
  intro s is hr hp hc hintr hg got failed foreign u
  have hrun : step s = runInstruction u := step_runInstruction hr hp hc hintr hg
  rw [hrun]
  split
  · exact fetchThen_failed ‹_›
  rename_i a ha
  intro b v hb
  refine ⟨?_, runInstruction_foreignOpcode ha hb, ?_⟩
  · rintro rfl; exact runInstruction_hlt ha hb
  rintro rfl
  rw [runInstruction_escape ha hb]
  split
  · exact fetchThen_failed ‹_›
  rename_i a ha
  intro c w hw
  rw [fetchThen_fetched ha hw]
  refine ⟨?_, ?_, ?_, fun h h' h'' => runDecoded_foreignEscape h h' h'' w⟩ <;> rintro rfl <;> rfl

/-- Settles O6: HLT moves the fetch address, then enters Halt. -/
theorem hltEntersHalt : Obligations.HltEntersHalt := by
  intro s hp hpriv
  have hlt : exec .hlt s = .next (enterHalt (advance .hlt s)) := by simp [exec, execHlt, hp, hpriv]
  refine ⟨⟨_, hlt⟩, fun t ht x => ?_⟩
  obtain rfl : _ = t := by simpa [hlt] using ht
  rfl

/-- Settles O31: by whether a wake-up is pending, then by whether ACPI S1 forbids a probe. -/
theorem northbridgeConnectEntersProbe : Obligations.NorthbridgeConnectEntersProbe := by
  intro s is r hq hr hc hp hpin
  have hstep : step s = onConnectAssert { s with inputs := is } := step_cons hq
  rw [hstep, onConnectAssert_disconnected (s := { s with inputs := is }) hr hc hpin]
  simp only [← State.inS1_of_resting hp, inS1_inputs]
  refine ⟨fun hw hn => ?_, fun hw hs => by simp [hw, hs], fun hw => if_pos hw⟩
  rw [if_neg (by simp [hw]), (Bool.not_eq_true _).mp hn]
  exact congrArg Host.Outcome.next (enterProbe_of_resting hp)

/-- Settles O32: the two requirements of a probe, met or not. -/
theorem probeIsAnswered : Obligations.ProbeIsAnswered := by
  intro s is p hq hr
  have hstep : step s = onProbe p { s with inputs := is } := step_cons hq
  rw [hstep]
  have hS1 := inS1_inputs s is
  exact ⟨fun hc hs => ⟨_, _, onProbe_connected p hr hc (hS1.trans hs)⟩, onProbe_not_connected (s := { s with inputs := is }) p,
    fun hc hs => onProbe_inS1 p hr hc (hS1.trans hs)⟩

end Sys2Proof.Proofs
end

section
/-! PROOFS. When the Stop Grant special cycle is sent (40_power_states.md R157 (d)). Then the statement. -/

namespace Sys2Proof.Machine

/-! ### When the Stop Grant special cycle is sent -/

/-- No Stop Grant special cycle is sent from `s` to `t`. -/
def SameGrants (s t : State) : Prop := t.cycles.count .stopGrant = s.cycles.count .stopGrant

theorem SameGrants.trans {s t u : State} (h : SameGrants s t) (h' : SameGrants t u) : SameGrants s u := Eq.trans h' h

theorem SameAccount.sameGrants {s t : State} (h : SameAccount s t) : SameGrants s t := by simp [SameGrants, h.cycles]

theorem sameGrants_cancelDisconnect (s : State) : SameGrants s (cancelDisconnect s) := by
  unfold SameGrants
  rw [cancelDisconnect_cycles]
  split <;> simp

theorem sameGrants_wakeUp {k : State → State} (hk : ∀ u, SameGrants u (k u)) (s : State) : SameGrants s (wakeUp k s) := by
  unfold wakeUp
  split
  · exact (sameGrants_cancelDisconnect s).trans (hk _)
  · exact rfl

theorem sameGrants_enterHalt (s : State) : SameGrants s (enterHalt s) := by simp [SameGrants]

theorem sameGrants_reenterHalt (s : State) : SameGrants s (reenterHalt s) := by simp [SameGrants]

theorem sameGrants_finishHalt (s : State) : SameGrants s (finishHalt s) := (sameAccount_finishHalt s).sameGrants

theorem sameGrants_finishStopGrant (s : State) : SameGrants s (finishStopGrant s) := by
  unfold finishStopGrant returnToHalt
  split
  · split
    · exact (sameGrants_reenterHalt s).trans (sameGrants_wakeUp sameGrants_finishHalt _)
    · exact sameGrants_reenterHalt s
  · exact (SameAccount.trans {} (sameAccount_deliverLatched { s with pm := .working })).sameGrants

/-- Of STPCLK#'s edges only its assertion in Halt sends one. -/
theorem sameGrants_stpclkEdge {s : State} {b : Bool} (h : b = true → s.pm ≠ .halt) : SameGrants s (stpclkEdge b s) := by
  unfold stpclkEdge
  split
  · exact absurd ‹_› (h rfl)
  · exact sameGrants_wakeUp sameGrants_finishStopGrant s
  all_goals rfl

theorem sameGrants_takeOrLatch (k : Kind) (m : Opaque) (s : State) : SameGrants s (takeOrLatch k m s) := by
  unfold takeOrLatch
  split
  · exact SameAccount.sameGrants { cycles := by simp }
  · exact (quiet_latch k m s).sameGrants.trans (sameGrants_wakeUp sameGrants_finishHalt _)
  · exact (quiet_latch k m s).sameGrants
  · exact rfl

theorem sameGrants_onEvent (k : Kind) (m : Opaque) (s : State) : SameGrants s (onEvent k m s) := by
  rcases onEvent_cases k m s with h | h
  · exact h.sameGrants
  · exact h ▸ (quiet_leaveProbe s).sameGrants.trans (sameGrants_takeOrLatch k m _)

theorem sameGrants_onStpclkAssert {s t : State} {c : StpclkCause} (h : onStpclkAssert c s = .next t) (hp : s.restPm ≠ .halt) :
    SameGrants s t := by
  rcases onStpclkAssert_cases h with h | rfl
  · exact h.sameGrants
  · refine ((quiet_markStpclk c s).trans (quiet_leaveProbe _)).sameGrants.trans (sameGrants_stpclkEdge fun _ hh => hp ?_)
    rw [leaveProbe_restPm] at hh; exact hh

theorem sameGrants_onStpclkDeassert {s t : State} (h : onStpclkDeassert s = .next t) : SameGrants s t := by
  rcases onStpclkDeassert_cases h with h | rfl
  · exact h.sameGrants
  · exact ((quiet_markPin .stpclk false s).trans (quiet_leaveProbe _)).sameGrants.trans (sameGrants_stpclkEdge (by simp))

theorem sameGrants_onRelease {p : EventPin} {s t : State} (h : onRelease p s = .next t) : SameGrants s t := by
  by_cases hp : p = .stpclk
  · subst hp; exact sameGrants_onStpclkDeassert h
  · exact (quiet_onRelease hp h).sameGrants

/-! What was deferred: an edge of STPCLK# sends one only as an assertion, and not in Stop Grant. -/

theorem sameGrants_serve {s : State} {d : Deferred} (h : d = .stpclk true → s.pm ≠ .halt) : SameGrants s (serve s d) := by
  cases d with
  | event k m => exact sameGrants_takeOrLatch k m s
  | stpclk b =>
    exact .trans (t := { s with pins := { s.pins with stpclk := b } }) rfl
      (sameGrants_stpclkEdge (s := { s with pins := { s.pins with stpclk := b } }) fun hb => h (hb ▸ rfl))

theorem sameGrants_serveAll_of_no_assertion {ds : List Deferred} {s : State} (h : .stpclk true ∉ ds) :
    SameGrants s (ds.foldl serve s) := by
  induction ds generalizing s with
  | nil => rfl
  | cons d ds ih =>
    obtain ⟨hd, hds⟩ := not_or.1 (List.mem_cons.not.1 h)
    exact (sameGrants_serve fun h => absurd h.symm hd).trans (ih hds)

theorem serve_stopGrant {s : State} {d : Deferred} (hp : s.pm = .stopGrant) (h : d ≠ .stpclk false) : (serve s d).pm = .stopGrant := by
  cases d with
  | event k m => simp [serve, takeOrLatch, hp]
  | stpclk b =>
    cases b
    · exact absurd rfl h
    · simp [serve, stpclkEdge, hp]

theorem sameGrants_serveAll_of_stopGrant {ds : List Deferred} {s : State} (hp : s.pm = .stopGrant) (h : .stpclk false ∉ ds) :
    SameGrants s (ds.foldl serve s) := by
  induction ds generalizing s with
  | nil => rfl
  | cons d ds ih =>
    obtain ⟨hd, hds⟩ := not_or.1 (List.mem_cons.not.1 h)
    exact (sameGrants_serve fun _ => by simp [hp]).trans (ih (serve_stopGrant hp (Ne.symm hd)) hds)

/-- Where a Stop Grant special cycle may be sent: STPCLK# asserted before or by the input, or an assertion that waited; and that
assertion not yet answered. -/
structure MayGrant (i : Input) (s : State) : Prop where
  asserted : s.pins.stpclk = true ∨ (∃ c, i = .stpclkAssert c) ∨ i = .probeDone ∧ .stpclk true ∈ s.deferred
  unanswered : s.restPm ≠ .stopGrant ∨ s.oweSg = true ∨ i = .probeDone ∧ .stpclk false ∈ s.deferred

theorem MayHalt.sameGrants {s t : State} (h : MayHalt s t) : SameGrants s t := by
  obtain ⟨u, hu, rfl | rfl⟩ := h
  · exact hu.sameGrants
  · exact hu.sameGrants.trans (sameGrants_enterHalt u)

/-- STPCLK# is recognised in Working or in Halt. -/
theorem mayGrant_of_stpclkPending {s : State} {i : Input} (h : s.stpclkPending = true) : MayGrant i s := by
  simp only [State.stpclkPending, Bool.and_eq_true, Bool.or_eq_true, beq_iff_eq] at h
  obtain ⟨⟨-, hk⟩, ⟨hp, -⟩ | hp⟩ := h
  all_goals exact ⟨.inl hk, .inl (by simp [restPm_of_ne, hp])⟩

theorem sameGrants_finishPending {s : State} (ho : s.oweSg = false) : SameGrants s (finishPending s) := by
  unfold finishPending
  split
  · exact sameGrants_finishHalt s
  · rw [if_neg (by simp [ho])]; exact sameGrants_finishStopGrant s
  all_goals rfl

theorem grants_forwardClocks {s : State} {i : Input} (hi : Inv s) (hr : s.running = true) (tm : Times) :
    SameGrants s (forwardClocks { s with times := tm }) ∨ MayGrant i s := by
  by_cases ho : s.oweSg = true
  · obtain ⟨hp, -, -⟩ := hi.owed ho
    have hd : s.deferred = [] := by
      by_contra hd
      simpa [hp] using (hi.deferring hd).1
    have hk := hi.stpclk hr (by simp [restPm_of_ne, hp]) (.inr ho)
    rw [hd] at hk
    exact .inr ⟨.inl hk, .inr (.inl ho)⟩
  · refine .inl ?_
    unfold forwardClocks
    simp only
    split
    · refine .trans (t := { emitCycle .connect { s with times := tm, conn := .connected } with
          wake := false, env := { s.env with probeDue := false } }) ?_ ?_
      · simp [SameGrants, State.cycles, OutEvent.cycle?]
      · exact sameGrants_finishPending (by simpa using ho)
    · exact rfl

theorem grants_onProbeDone {s t : State} (h : onProbeDone s = .next t) : SameGrants s t ∨ MayGrant .probeDone s := by
  rcases onProbeDone_next h with rfl | hq
  · have hs := (quiet_serviced s).sameGrants
    by_cases ha : .stpclk true ∈ s.deferred
    · by_cases hd : s.restPm = .stopGrant ∧ .stpclk false ∉ s.deferred
      · exact .inl (hs.trans (sameGrants_serveAll_of_stopGrant ((leaveProbe_restPm _).trans hd.1) hd.2))
      · refine .inr ⟨.inr (.inr ⟨rfl, ha⟩), ?_⟩
        by_cases hp : s.restPm = .stopGrant
        · exact .inr (.inr ⟨rfl, by simpa [hp] using hd⟩)
        · exact .inl hp
    · exact .inl (hs.trans (sameGrants_serveAll_of_no_assertion ha))
  · exact .inl hq.sameGrants

theorem Act.grants {i : Input} {s t : State} (h : Act i s t) (hi : Inv s) : SameGrants s t ∨ MayGrant i s := by
  cases h with
  | quiet h => exact .inl h.sameGrants
  | own h =>
    rcases ownStep_cases h with ⟨hp, -⟩ | h
    · exact .inr (mayGrant_of_stpclkPending hp)
    · rcases ownWork_cases h with h | ⟨-, h⟩
      · exact .inl h.sameGrants
      · exact .inl (mayHalt_atBoundary h).sameGrants
  | event n =>
    rename_i k m
    exact .inl ((quiet_mark k s).sameGrants.trans (sameGrants_onEvent k n _))
  | asserted h =>
    by_cases hp : s.restPm = .halt
    · exact .inr ⟨.inr (.inl ⟨_, rfl⟩), .inl (by simp [hp])⟩
    · exact .inl (sameGrants_onStpclkAssert h hp)
  | deasserted _ h => exact .inl (sameGrants_onStpclkDeassert h)
  | reset => exact .inl rfl
  | forwardClocks tm hr _ => exact grants_forwardClocks hi hr tm
  | probeDone h => exact grants_onProbeDone h

/-- A state is the same to it while nothing but time passes. -/
theorem Meanwhile.mayGrant {i : Input} {s t : State} (h : Meanwhile s t) (ht : MayGrant i t) : MayGrant i s := by
  obtain ⟨_, _, _, rfl⟩ := h
  exact ⟨ht.asserted, ht.unanswered⟩

/-- A pulse may send one at its assertion only. -/
theorem Pulsed.grants {p : EventPin} {s t : State} (h : Pulsed p s t) (hi : Inv s) : SameGrants s t ∨ MayGrant p.asserting s := by
  obtain ⟨u, v, w, hu, ha, hv, ht⟩ := h
  refine ((act_asserting ha).grants (hu.inv hi)).imp (fun hg => ?_) hu.mayGrant
  exact hu.quiet.sameGrants.trans (hg.trans (hv.quiet.sameGrants.trans (sameGrants_onRelease ht)))

/-- A step that sends one: by the input at the head of the schedule, by the assertion of a pulse there, or by the processor's own. -/
theorem grants_step {s t : State} (hi : Inv s) (h : step s = .next t) :
    SameGrants s t ∨ ∃ i, MayGrant i s ∧
      (s.inputs.head? = some i ∨ (∃ r, i = .step r) ∨ ∃ p d, s.inputs.head? = some (.pulse p d) ∧ i = p.asserting) := by
  rcases step_cases h with hs | ⟨i, u, hq, hu, ha⟩ | ⟨p, d, hq, hp⟩
  · exact .inl hs.quiet.sameGrants
  · exact (ha.grants (hu.inv hi)).imp hu.quiet.sameGrants.trans fun hg =>
      ⟨i, hu.mayGrant hg, hq.imp_right fun hr => .inl hr.2⟩
  · exact (hp.grants hi).imp_right fun hg => ⟨_, hg, .inr (.inr ⟨p, d, hq, rfl⟩)⟩

end Sys2Proof.Machine

namespace Sys2Proof.Proofs

open Sys2Proof.Machine

/-- Settles O58: the act that sends the cycle is one of a state and an input that may. -/
theorem stopGrantCycleNeedsStpclk : Obligations.StopGrantCycleNeedsStpclk := by
  intro s t hi h hlt served
  obtain ⟨i, ⟨hk, hu⟩, hq⟩ := (grants_step hi h).resolve_left (Nat.ne_of_gt hlt)
  rcases hq with hq | ⟨r, rfl⟩ | ⟨p, d, hq, rfl⟩
  · refine ⟨?_, ?_⟩
    · rcases hk with hk | ⟨c, rfl⟩ | ⟨rfl, hd⟩
      · exact .inl hk
      · exact .inr (.inl ⟨c, hq⟩)
      · exact .inr (.inr (.inr ⟨hq, hd⟩))
    · exact hu.imp_right (Or.imp_right fun ⟨hi, hd⟩ => ⟨hi ▸ hq, hd⟩)
  · simp only [reduceCtorEq, exists_false, false_and, or_false] at hk hu
    exact ⟨.inl hk, hu.imp_right .inl⟩
  · have hne : p.asserting ≠ .probeDone := by cases p <;> simp [EventPin.asserting]
    simp only [hne, false_and, or_false] at hk hu
    refine ⟨hk.imp_right fun ⟨c, hc⟩ => ?_, hu.imp_right .inl⟩
    have hp : p = .stpclk := by cases p <;> simp_all [EventPin.asserting]
    exact .inr (.inl ⟨d, hp ▸ hq⟩)

end Sys2Proof.Proofs
end

section
/-! PROOFS. The connect machine (41_connect_protocol.md R185), one equation a step. Then the statements about single steps. -/

namespace Sys2Proof.Machine

/-! ### CONNECT falls (condition 1) -/

theorem disconnectEnabled_halt {s : State} (h : s.restPm = .halt) : s.disconnectEnabled = s.env.nbDiscOnHalt := by
  simp only [State.disconnectEnabled, leaveProbe_restPm, h]

theorem disconnectEnabled_stopGrant {s : State} (h : s.restPm = .stopGrant) : s.disconnectEnabled = s.env.nbDiscOnSg := by
  simp only [State.disconnectEnabled, leaveProbe_restPm, h]

@[simp] theorem disconnectEnabled_setInputs (s : State) (is : List Input) :
    ({ s with inputs := is } : State).disconnectEnabled = s.disconnectEnabled := by
  simp [State.disconnectEnabled]

/-- What the Northbridge has to wait for before it deasserts CONNECT on a connected bus (R172, R174, R192 (a); 70 R457). -/
def State.MayDisconnect (s : State) : Prop :=
  s.discReq = true ∧ s.disconnectEnabled = true ∧ s.env.probeOutstanding = false ∧ s.env.dataMoving = false ∧
    s.env.nbReset = false ∧ ∀ c, s.times.commandAt = some c → c + 8 * s.times.period ≤ s.times.now

/-- The state a disconnect request leads to. -/
def beginDisconnect (s : State) : State :=
  { s with pm := s.restPm, conn := .disconnectPending, pins := { s.pins with connect := false } }

/-- On a connected bus CONNECT falls exactly when it may. -/
theorem onConnectDeassert_connected {s t : State} (hr : s.running = true) (hc : s.conn = .connected)
    (hp : s.pins.connect = true) : onConnectDeassert s = .next t ↔ s.MayDisconnect ∧ beginDisconnect s = t := by
  have hstate : { leaveProbe { s with pins := { s.pins with connect := false } } with conn := .disconnectPending } =
      beginDisconnect s := by rw [leaveProbe_restPm_eq]; rfl
  simp only [onConnectDeassert, hstate]
  simp only [hr, hc, hp, if_true, require_next, clearOf_iff, State.MayDisconnect, Bool.and_eq_true, Bool.not_eq_true',
    Host.Outcome.next.injEq, Timing.disconnectWaitPeriods]
  tauto

theorem step_connectDeassert {s t : State} {is : List Input} (hi : s.inputs = .connectDeassert :: is) (hr : s.running = true)
    (hc : s.conn = .connected) (hp : s.pins.connect = true) :
    step s = .next t ↔ s.MayDisconnect ∧ beginDisconnect { s with inputs := is } = t := by
  have hmay : State.MayDisconnect { s with inputs := is } ↔ s.MayDisconnect := by simp [State.MayDisconnect]
  rw [step_cons hi, ← hmay]
  exact onConnectDeassert_connected hr hc hp

/-! ### The processor's own steps (conditions 3 and 4) -/

theorem disconnectDiv_halt {s : State} (h : s.pm = .halt) : s.disconnectDiv = haltDiv s.clkCtl := by
  simp only [State.disconnectDiv, h]

theorem disconnectDiv_stopGrant {s : State} (h : s.pm = .stopGrant) : s.disconnectDiv = sgDiv s.clkCtl := by
  simp only [State.disconnectDiv, h]

/-- At the one value of CLK_Ctl that is characterised both divisors are 8 (10_state.md R46). -/
theorem disconnectDiv_known {s : State} (h : s.clkCtl = clkCtlKnown) : s.disconnectDiv = 8 := by
  unfold State.disconnectDiv
  split <;> simp [haltDiv, sgDiv, h]

theorem ownWork_disconnectPending {s : State} (hr : s.running = true) (hc : s.conn = .disconnectPending) :
    ownWork s = .next (dropProcrdy s) := by
  simp [ownWork, hr, hc]

theorem ownWork_disconnected {s : State} (hr : s.running = true) (hc : s.conn = .disconnected) :
    ownWork s = .next (if s.wake then raiseProcrdy s else s) := by
  simp [ownWork, hr, hc]

/-! ### CLKFWDRST (condition 5) -/

theorem onClkfwdrstAssert_accepted {s : State} (hc : s.conn = .disconnected ∨ s.conn = .connectPending1)
    (hp : s.pins.clkfwdrst = false) : onClkfwdrstAssert s = .next { s with pins := { s.pins with clkfwdrst := true } } := by
  rcases hc with hc | hc <;> simp [onClkfwdrstAssert, hc, hp]

theorem onClkfwdrstAssert_refused {s : State} (hr : s.running = true) (hd : s.conn ≠ .disconnected)
    (hc : s.conn ≠ .connectPending1) (hp : s.pins.clkfwdrst = false) :
    onClkfwdrstAssert s = .refused .clkfwdrstOutOfOrder := by
  have hno : (s.conn == .disconnected || s.conn == .connectPending1) = false := by simp [hd, hc]
  simp [onClkfwdrstAssert, hr, hp, hno]

/-- In `ConnectPending1` it may fall with CONNECT asserted. -/
theorem onClkfwdrstDeassert_accepted {s : State} (hr : s.running = true) (hc : s.conn = .connectPending1)
    (hp : s.pins.clkfwdrst = true) (hconn : s.pins.connect = true) :
    onClkfwdrstDeassert s = .next { s with
      conn := .connectPending2, pins := { s.pins with clkfwdrst := false }
      times := { s.times with clkfwdrstAt := some s.times.now } } := by
  simp [onClkfwdrstDeassert, hr, hc, hp, hconn]

/-- And not without. -/
theorem onClkfwdrstDeassert_refused {s : State} (hr : s.running = true) (hc : s.conn = .connectPending1)
    (hp : s.pins.clkfwdrst = true) (hconn : s.pins.connect = false) : onClkfwdrstDeassert s = .refused .connectOutOfOrder := by
  simp [onClkfwdrstDeassert, hr, hc, hp, hconn]

end Sys2Proof.Machine

namespace Sys2Proof.Proofs

open Sys2Proof.Machine

/-- Settles O34: the answer's conditions and its state are those of `step_connectDeassert`. -/
theorem disconnectNeedsInvitation : Obligations.DisconnectNeedsInvitation := by
  intro s is hi hr hc hp
  have hstep := fun t => step_connectDeassert (t := t) hi hr hc hp
  exact ⟨⟨fun ⟨t, h⟩ => ((hstep t).1 h).1, fun h => ⟨_, (hstep _).2 ⟨h, rfl⟩⟩⟩, fun t h => ((hstep t).1 h).2.symm⟩

/-- Settles O35: the own step is condition 3. -/
theorem processorAcceptsDisconnect : Obligations.ProcessorAcceptsDisconnect := by
  intro s is hi hr hc _
  refine ⟨s.disconnectDiv, ?_, disconnectDiv_halt, disconnectDiv_stopGrant, disconnectDiv_known⟩
  rw [step_ownStepNext hi (by simp [hc])]
  exact ownWork_disconnectPending hr hc

/-- Settles O36: the own step is condition 4, by whether a wake-up event came. -/
theorem processorStartsConnect : Obligations.ProcessorStartsConnect := by
  intro s is hi hr hc
  rw [step_ownStepNext hi (by simp [hc]), ownWork_disconnected (s := { s with inputs := is }) hr hc]
  refine ⟨fun hw => ?_, fun hw => ?_⟩
  · rw [if_pos hw]; rfl
  · rw [if_neg (by simp [hw])]

/-- Settles O37: the assertion by the state of the connect machine, the deassertion by CONNECT's level. -/
theorem clkfwdrstOrder : Obligations.ClkfwdrstOrder := by
  intro s is hr
  refine ⟨fun hi hp => ?_, fun hi hc hp => ?_⟩
  · rw [step_cons hi]
    exact ⟨fun hc => onClkfwdrstAssert_accepted hc hp, fun hd hc => onClkfwdrstAssert_refused hr hd hc hp⟩
  · rw [step_cons hi]
    exact ⟨fun hconn => onClkfwdrstDeassert_accepted hr hc hp hconn, fun hconn => onClkfwdrstDeassert_refused hr hc hp hconn⟩

end Sys2Proof.Proofs
end

section
/-! PROOFS. The forwarded clocks start (41_connect_protocol.md R185 condition 6, R191). Then the statement. -/

namespace Sys2Proof.Machine

/-! ### When connected, the pending rule completes -/

/-- Connected after a wake-up event: the Connect special cycle is sent, none is owed any more, and no probe is due (R185 action B). -/
def reconnected (s : State) : State :=
  { s with
    conn := .connected, wake := false, out := s.out ++ [.cycle .connect], env := { s.env with probeDue := false } }

theorem forwardClocks_woken {s : State} (h : s.wake = true) : forwardClocks s = finishPending (reconnected s) := by
  simp only [forwardClocks, h, if_true]
  rfl

theorem forwardClocks_unwoken {s : State} (h : s.wake = false) : forwardClocks s = { s with conn := .connected } := by
  simp [forwardClocks, h]

theorem finishPending_halt {s : State} (h : s.pm = .halt) : finishPending s = finishHalt s := by
  simp [finishPending, h]

theorem finishPending_owed {s : State} (h : s.pm = .stopGrant) (ho : s.oweSg = true) :
    finishPending s = finishOwedStopGrant s := by
  simp [finishPending, h, ho]

theorem finishPending_stopGrant {s : State} (h : s.pm = .stopGrant) (ho : s.oweSg = false) :
    finishPending s = finishStopGrant s := by
  simp [finishPending, h, ho]

/-- From `s` to `t` nothing changes of what the connect machine and the clocks keep. -/
structure SameBus (s t : State) : Prop where
  conn : t.conn = s.conn := by simp
  wake : t.wake = s.wake := by simp
  pins : t.pins = s.pins := by simp
  clkCtl : t.clkCtl = s.clkCtl := by simp
  clockDiv : t.clockDiv = s.clockDiv := by simp
  env : t.env = s.env := by simp
  times : t.times = s.times := by simp
  inputs : t.inputs = s.inputs := by simp

theorem sameBus_finishHalt (s : State) : SameBus s (finishHalt s) := by
  unfold finishHalt
  exact {}

theorem sameBus_finishStopGrant {s : State} (hc : s.conn = .connected) (hd : s.env.probeDue = false) :
    SameBus s (finishStopGrant s) := by
  cases hf : s.sgFromHalt with
  | false => rw [finishStopGrant_fromWorking hf]; exact {}
  | true =>
    cases hl : s.latched.any with
    | false => rw [finishStopGrant_fromHalt hf hl]; exact {}
    | true =>
      rw [finishStopGrant_throughHalt hf hl (by simp [State.busUp, hc])]
      exact { conn := by simp [hc], env := by simp [← hd] }

/-- Whatever rule is pending, it leaves a connected bus as it is. -/
theorem sameBus_finishPending {s : State} (hc : s.conn = .connected) (hd : s.env.probeDue = false) :
    SameBus s (finishPending s) := by
  unfold finishPending
  split
  · exact sameBus_finishHalt s
  · split
    · exact {}
    · exact sameBus_finishStopGrant hc hd
  · exact {}
  · exact {}

/-- The bus when the forwarded clocks have started: connected, nothing owed. -/
theorem forwardClocks_bus (s : State) : SameBus { s with
    conn := .connected, wake := false, env := { s.env with probeDue := s.env.probeDue && !s.wake } } (forwardClocks s) := by
  cases hw : s.wake with
  | true =>
    rw [forwardClocks_woken hw]
    obtain ⟨hconn, hwake, hpins, hclk, hdiv, henv, htimes, hin⟩ := sameBus_finishPending (s := reconnected s) rfl rfl
    exact ⟨hconn, hwake, hpins, hclk, hdiv, by rw [henv]; simp [reconnected], htimes, hin⟩
  | false =>
    rw [forwardClocks_unwoken hw]
    exact { wake := hw }

/-! ### What is delivered then -/

/-- `t` is in Working, with what was latched in `s` delivered. -/
def Delivered (s t : State) : Prop :=
  t.pm = .working ∧ t.latched.any = false ∧ t.x86 = (deliverLatched s).x86 ∧ t.mem = (deliverLatched s).mem ∧
    t.cache = (deliverLatched s).cache ∧ t.intrPending = (deliverLatched s).intrPending

/-- Registers, memory, caches and what is latched or pends are in `t` as in `s`. -/
def Kept (s t : State) : Prop :=
  t.x86 = s.x86 ∧ t.mem = s.mem ∧ t.cache = s.cache ∧ t.latched = s.latched ∧ t.intrPending = s.intrPending

/-- What delivery reads, and what is latched, is in `u` as in `s`. -/
def SameLatched (s u : State) : Prop := SameForX86 u s ∧ u.latched = s.latched

theorem SameLatched.delivered {s u : State} (h : SameLatched s u) (hp : u.pm = .working) :
    Delivered s (deliverLatched u) ∧ (deliverLatched u).out = u.out ++ s.latchedAck := by
  obtain ⟨hx, hm, hc, hi, ho⟩ := deliverLatched_like h.1 h.2
  exact ⟨⟨by simp [hp], by simp, hx, hm, hc, hi⟩, ho⟩

theorem SameLatched.kept {s u : State} (h : SameLatched s u) : Kept s u :=
  ⟨h.1.x86, h.1.mem, h.1.cache, h.2, h.1.pending⟩

section
variable {s u : State} (h : SameLatched s u)
include h

theorem SameLatched.reconnected : SameLatched s (reconnected u) :=
  ⟨⟨h.1.x86, h.1.mem, h.1.cache, h.1.pins, h.1.vector, h.1.free, h.1.pending⟩, h.2⟩

theorem SameLatched.reenterHalt : SameLatched s (reenterHalt u) :=
  ⟨⟨h.1.x86, h.1.mem, h.1.cache, h.1.pins, h.1.vector, h.1.free, h.1.pending⟩, h.2⟩

theorem SameLatched.cancelDisconnect : SameLatched s (cancelDisconnect u) := by
  rw [cancelDisconnect_eq]
  exact ⟨⟨h.1.x86, h.1.mem, h.1.cache, h.1.pins, h.1.vector, h.1.free, h.1.pending⟩, h.2⟩

theorem SameLatched.working : SameLatched s { u with pm := .working } :=
  ⟨⟨h.1.x86, h.1.mem, h.1.cache, h.1.pins, h.1.vector, h.1.free, h.1.pending⟩, h.2⟩

/-! What the forwarded clocks complete after a wake-up event, in a state `u` that agrees with `s` on what is latched. -/

/-- From Halt (40_power_states.md R138). -/
theorem SameLatched.forwardClocks_halt (hw : u.wake = true) (hp : u.pm = .halt) :
    Delivered s (forwardClocks u) ∧ (forwardClocks u).out = u.out ++ [.cycle .connect] ++ s.latchedAck := by
  rw [forwardClocks_woken hw, finishPending_halt (s := Machine.reconnected u) hp]
  exact h.reconnected.working.delivered rfl

/-- From Stop Grant with its special cycle owed (R139). -/
theorem SameLatched.forwardClocks_owed (hw : u.wake = true) (hp : u.pm = .stopGrant) (ho : u.oweSg = true) :
    (forwardClocks u).pm = .stopGrant ∧ (forwardClocks u).oweSg = false ∧ (forwardClocks u).discReq = true ∧
      (forwardClocks u).out = u.out ++ [.cycle .connect, .cycle .stopGrant] ∧ Kept s (forwardClocks u) := by
  rw [forwardClocks_woken hw, finishPending_owed (s := Machine.reconnected u) hp ho]
  refine ⟨hp, rfl, rfl, by simp [Machine.reconnected], h.reconnected.kept⟩

/-- From Stop Grant entered from Working (R142). -/
theorem SameLatched.forwardClocks_fromWorking (hw : u.wake = true) (hp : u.pm = .stopGrant) (ho : u.oweSg = false)
    (hf : u.sgFromHalt = false) :
    Delivered s (forwardClocks u) ∧ (forwardClocks u).out = u.out ++ [.cycle .connect] ++ s.latchedAck := by
  rw [forwardClocks_woken hw, finishPending_stopGrant (s := Machine.reconnected u) hp ho,
    finishStopGrant_fromWorking (s := Machine.reconnected u) hf]
  exact h.reconnected.working.delivered rfl

/-- From Stop Grant entered from Halt, with nothing latched (R146). -/
theorem SameLatched.forwardClocks_fromHalt (hw : u.wake = true) (hp : u.pm = .stopGrant) (ho : u.oweSg = false)
    (hf : u.sgFromHalt = true) (hl : u.latched.any = false) :
    (forwardClocks u).pm = .halt ∧ (forwardClocks u).sgFromHalt = false ∧ (forwardClocks u).discReq = true ∧
      (forwardClocks u).out = u.out ++ [.cycle .connect, .cycle .halt] ∧ Kept s (forwardClocks u) := by
  rw [forwardClocks_woken hw, finishPending_stopGrant (s := Machine.reconnected u) hp ho,
    finishStopGrant_fromHalt (s := Machine.reconnected u) hf hl]
  refine ⟨rfl, rfl, rfl, by simp [Machine.reconnected], h.reconnected.kept⟩

/-- And with something latched: through Halt to Working (R144). -/
theorem SameLatched.forwardClocks_throughHalt (hw : u.wake = true) (hp : u.pm = .stopGrant) (ho : u.oweSg = false)
    (hf : u.sgFromHalt = true) (hl : u.latched.any = true) :
    Delivered s (forwardClocks u) ∧ (forwardClocks u).discReq = false ∧
      (forwardClocks u).out = u.out ++ [.cycle .connect, .cycle .halt, .cycle .connect] ++ s.latchedAck := by
  rw [forwardClocks_woken hw, finishPending_stopGrant (s := Machine.reconnected u) hp ho,
    finishStopGrant_throughHalt (s := Machine.reconnected u) hf hl rfl]
  obtain ⟨hdel, hout⟩ := h.reconnected.reenterHalt.cancelDisconnect.working.delivered rfl
  exact ⟨hdel, by simp, by rw [hout]; simp [Machine.reconnected]⟩

end

/-! ### The step -/

/-- Three SYSCLK periods after CLKFWDRST fell (R191). -/
theorem onFwdclkStart_due {s : State} {c : Nat} (hr : s.running = true) (hc : s.conn = .connectPending2)
    (ht : s.times.clkfwdrstAt = some c) (hd : s.times.now ≤ c + 3 * s.times.period) :
    onFwdclkStart s = comeTo (forwardClocks (passTime (c + 3 * s.times.period - s.times.now) s)) := by
  simp [onFwdclkStart, hr, hc, ht, Timing.forwardClockPeriods, hd]

/-- Where the forwarded clocks lead to Working VCC_CORE has to be within Table 6, elsewhere nothing is asked of it. -/
theorem vccCoreOk_forwardClocks {s : State} (hp : s.pm ≠ .working)
    (hv : s.wake = true → (s.pm = .stopGrant ∧ (s.oweSg = true ∨ s.sgFromHalt = true ∧ s.latched.any = false)) ∨
      s.vccInTolerance = true) : (forwardClocks s).vccCoreOk = true := by
  have hsame : SameLatched s s := ⟨⟨rfl, rfl, rfl, rfl, rfl, rfl, rfl⟩, rfl⟩
  cases hw : s.wake with
  | false => rw [forwardClocks_unwoken hw]; exact vccCoreOk_of_ne hp
  | true =>
    rcases hv hw with ⟨hg, hrest⟩ | hv
    · apply vccCoreOk_of_ne
      cases ho : s.oweSg with
      | true => simp [(hsame.forwardClocks_owed hw hg ho).1]
      | false =>
        obtain ⟨hf, hl⟩ := hrest.resolve_left (by simp [ho])
        simp [(hsame.forwardClocks_fromHalt hw hg ho hf hl).1]
    · exact vccCoreOk_of_tolerance ((steady_forwardClocks s).vccInTolerance_eq.trans hv)

end Sys2Proof.Machine

namespace Sys2Proof.Proofs

open Sys2Proof.Machine

/-- Settles O38: the step is `forwardClocks` at the moment due, and each case of the pending rule has its lemma. -/
theorem forwardClocksComplete : Obligations.ForwardClocksComplete := by
  intro s is c hi hr hc ht hd hp hv ack
  let u := passTime (c + 3 * s.times.period - s.times.now) { s with inputs := is }
  have hsame : SameLatched s u := ⟨⟨rfl, rfl, rfl, rfl, rfl, rfl, rfl⟩, rfl⟩
  obtain ⟨hconn, hwake, hpins, hclk, -, henv, htimes, -⟩ := forwardClocks_bus u
  refine ⟨forwardClocks u, ?_, hconn, hwake, hpins, hclk, henv, ?_, fun hw => ?_, hsame.forwardClocks_halt,
    hsame.forwardClocks_owed, hsame.forwardClocks_fromWorking, hsame.forwardClocks_fromHalt, hsame.forwardClocks_throughHalt⟩
  · exact (step_cons hi).trans ((onFwdclkStart_due (s := { s with inputs := is }) hr hc ht hd).trans
      (comeTo_ok (vccCoreOk_forwardClocks hp hv)))
  · rw [htimes]
    simp [u, Nat.add_sub_cancel' hd]
  · rw [forwardClocks_unwoken (s := u) hw]
    exact ⟨rfl, rfl, rfl, hsame.kept⟩

end Sys2Proof.Proofs
end

section
/-! PROOFS. Runs of the connect protocol (41_connect_protocol.md R180, R181, R188, R189): the pieces the runs share, then the
statements. -/

namespace Sys2Proof.Machine

/-! ### The pieces of a run -/

/-- The Northbridge asks for a disconnect and the processor answers (R185 conditions 1 to 3). -/
theorem runSteps_disconnect {s : State} {is : List Input} (hi : s.inputs = .connectDeassert :: .step false :: is)
    (hr : s.running = true) (hc : s.conn = .connected) (hp : s.pins.connect = true) (hmay : s.MayDisconnect) :
    runSteps 2 s = .next (dropProcrdy (beginDisconnect { s with inputs := is })) := by
  let u := beginDisconnect { s with inputs := .step false :: is }
  have h1 : step s = .next u := (step_connectDeassert hi hr hc hp).2 ⟨hmay, rfl⟩
  have h2 : step u = .next (dropProcrdy (beginDisconnect { s with inputs := is })) :=
    (step_ownStepNext (s := u) (.inl rfl) (by simp [u, beginDisconnect])).trans (ownWork_disconnectPending hr rfl)
  rw [runSteps_next h1, runSteps_one, h2]

/-- CLKFWDRST falls while CONNECT is asserted, and three SYSCLK periods later the forwarded clocks start (conditions 5 and 6). -/
theorem runSteps_clocks {s : State} {is : List Input} (hi : s.inputs = .clkfwdrstDeassert :: .fwdclkStart :: is)
    (hr : s.running = true) (hc : s.conn = .connectPending1) (hp : s.pins.clkfwdrst = true) (hconn : s.pins.connect = true) :
    runSteps 2 s = comeTo (forwardClocks (passTime (3 * s.times.period) { s with
      inputs := is, conn := .connectPending2, pins := { s.pins with clkfwdrst := false }
      times := { s.times with clkfwdrstAt := some s.times.now } })) := by
  let u : State := { s with
    inputs := .fwdclkStart :: is, conn := .connectPending2, pins := { s.pins with clkfwdrst := false }
    times := { s.times with clkfwdrstAt := some s.times.now } }
  have h1 : step s = .next u :=
    (step_cons hi).trans (onClkfwdrstDeassert_accepted (s := { s with inputs := .fwdclkStart :: is }) hr hc hp hconn)
  have h2 := onFwdclkStart_due (s := { u with inputs := is }) hr rfl rfl (Nat.le_add_right s.times.now _)
  rw [runSteps_next h1, runSteps_one, step_cons (s := u) rfl, onInput, h2]
  simp [u]

/-- In `ConnectPending1` CONNECT's assertion is a level only (R185). -/
theorem onConnectAssert_connectPending1 {s : State} (hr : s.running = true) (hc : s.conn = .connectPending1)
    (hp : s.pins.connect = false) : onConnectAssert s = .next { s with pins := { s.pins with connect := true } } := by
  simp [onConnectAssert, hr, hc, hp]

/-- After the same time VCC_CORE is in tolerance in two states that have its level and durations in common. -/
theorem vccInTolerance_passTime {s t : State} (n : Nat) (hv : t.env.vccCoreMv = s.env.vccCoreMv)
    (ha : t.times.vccAbove = s.times.vccAbove) (hb : t.times.vccBelow = s.times.vccBelow) :
    (passTime n t).vccInTolerance = (passTime n s).vccInTolerance :=
  vccInTolerance_congr hv (by simp [hv, ha]) (by simp [hv, hb])

/-- The moment at which the forwarded clocks start, in a machine that was disconnected: PROCRDY and CONNECT have risen, and CLKFWDRST
fell three SYSCLK periods ago. -/
def clocksDue (s : State) : State :=
  passTime (3 * s.times.period) { s with
    conn := .connectPending2, clockDiv := 1, out := s.out ++ [.procrdy true]
    pins := { s.pins with connect := true, procrdy := true, clkfwdrst := false }
    times := { s.times with clkfwdrstAt := some s.times.now } }

/-- A woken machine connects again (R185 conditions 4 to 6, R188). -/
theorem runSteps_reconnect {s : State} {is : List Input}
    (hi : s.inputs = .step false :: .connectAssert :: .clkfwdrstDeassert :: .fwdclkStart :: is) (hr : s.running = true)
    (hc : s.conn = .disconnected) (hw : s.wake = true) (hconn : s.pins.connect = false) (hclk : s.pins.clkfwdrst = true)
    (hv : (passTime (3 * s.times.period) s).vccInTolerance = true) :
    runSteps 4 s = .next (forwardClocks (clocksDue { s with inputs := is })) := by
  let q : List Input := .clkfwdrstDeassert :: .fwdclkStart :: is
  let u := raiseProcrdy { s with inputs := .connectAssert :: q }
  have h1 : step s = .next u := by
    rw [step_ownStepNext (.inl hi) (by simp [hc]), ownWork_disconnected (s := { s with inputs := .connectAssert :: q }) hr hc]
    exact congrArg _ (if_pos hw)
  let v : State := { u with inputs := q, pins := { u.pins with connect := true } }
  have h2 : step u = .next v :=
    (step_cons (s := u) (is := q) rfl).trans (onConnectAssert_connectPending1 (s := { u with inputs := q }) hr rfl hconn)
  rw [runSteps_next h1, runSteps_next h2, runSteps_clocks (s := v) rfl hr rfl hclk rfl]
  exact comeTo_ok (vccCoreOk_of_tolerance ((steady_forwardClocks _).vccInTolerance_eq.trans hv))

/-- A state delivers what is latched in it. -/
theorem SameLatched.refl (s : State) : SameLatched s s := ⟨⟨rfl, rfl, rfl, rfl, rfl, rfl, rfl⟩, rfl⟩

/-- With nothing latched, delivery changes nothing. -/
theorem Delivered.kept {s t : State} (h : Delivered s t) (hl : s.latched.any = false) :
    t.x86 = s.x86 ∧ t.mem = s.mem ∧ t.cache = s.cache ∧ t.intrPending = s.intrPending := by
  obtain ⟨-, -, hx, hm, hc, hi⟩ := h
  rw [deliverLatched_none s hl] at hx hm hc hi
  exact ⟨hx, hm, hc, hi⟩

theorem Inv.protocolPins_connected {s : State} (h : Inv s) (hr : s.running = true) (hc : s.conn = .connected) :
    s.pins.procrdy = true ∧ s.pins.clkfwdrst = false := by
  simpa [Pins.fitConn, hc] using h.pins hr

theorem Inv.protocolPins_disconnected {s : State} (h : Inv s) (hr : s.running = true) (hc : s.conn = .disconnected) :
    s.pins.connect = false ∧ s.pins.procrdy = false := by
  simpa [Pins.fitConn, hc] using h.pins hr

/-! ### Figure 4: the disconnect in Stop Grant -/

/-- The state in which the disconnect in Stop Grant ends. -/
def stopGrantDisconnected (s : State) : State :=
  { s with
    pm := .stopGrant, sgFromHalt := false, conn := .disconnected, discReq := true
    out := s.out ++ [.cycle .stopGrant, .procrdy false], clockDiv := sgDiv s.clkCtl
    pins := { s.pins with connect := false, procrdy := false, clkfwdrst := true }
    env := { s.env with probeDue := true } }

/-- From Working, with STPCLK# asserted: Stop Grant, the Northbridge's request, the processor's answer, CLKFWDRST. -/
theorem runSteps_stopGrant_disconnect {s : State} {is : List Input} (hinv : Inv s) (hr : s.running = true)
    (hp : s.pm = .working) (hstp : s.pins.stpclk = true) (hconn : s.pins.connect = true)
    (hmay : s.env.nbDiscOnSg = true ∧ s.env.probeOutstanding = false ∧ s.env.dataMoving = false ∧ s.env.nbReset = false ∧
      ∀ c, s.times.commandAt = some c → c + 8 * s.times.period ≤ s.times.now)
    (hi : s.inputs = .step true :: .connectDeassert :: .step false :: .clkfwdrstAssert :: is) :
    runSteps 4 s = .next (stopGrantDisconnected { s with inputs := is }) := by
  have hc := hinv.working hp
  obtain ⟨-, hclk⟩ := hinv.protocolPins_connected hr hc
  obtain ⟨hsg, hidle⟩ := hmay
  let u1 := enterStopGrant { s with inputs := .connectDeassert :: .step false :: .clkfwdrstAssert :: is }
  let u3 := dropProcrdy (beginDisconnect { u1 with inputs := .clkfwdrstAssert :: is })
  have h1 : step s = .next u1 := step_recognise_working hi hr hp hc hstp
  have h3 : runSteps 2 u1 = .next u3 :=
    runSteps_disconnect rfl hr hc hconn ⟨rfl, (disconnectEnabled_stopGrant rfl).trans hsg, hidle⟩
  have h4 : step u3 = .next { u3 with inputs := is, pins := { u3.pins with clkfwdrst := true } } :=
    (step_cons (s := u3) (is := is) rfl).trans (onClkfwdrstAssert_accepted (s := { u3 with inputs := is }) (.inl rfl) hclk)
  rw [runSteps_next h1, runSteps_add (a := 2) (b := 1) h3, runSteps_one, h4]
  congr 1
  apply State.ext <;> simp [u3, u1, beginDisconnect, stopGrantDisconnected]
  case pm => rfl
  case clockDiv => exact disconnectDiv_stopGrant rfl

end Sys2Proof.Machine

namespace Sys2Proof.Proofs

open Sys2Proof.Machine

/-- Settles O39: the disconnect, STPCLK#'s release, which owes the Connect special cycle, and the connect. -/
theorem stopGrantDisconnectAndReturn : Obligations.StopGrantDisconnectAndReturn := by
  intro s is hinv hr hp hstp hconn hsg hprobe hdata hnb hcmd hv hi
  obtain ⟨hrdy, hclk⟩ := hinv.protocolPins_connected hr (hinv.working hp)
  have howe : s.oweSg = false := hinv.oweSg_of_ne (by simp [hp])
  let q : List Input := .step false :: .connectAssert :: .clkfwdrstDeassert :: .fwdclkStart :: is
  let u := stopGrantDisconnected { s with inputs := .stpclkDeassert :: q }
  let w : State := { u with inputs := q, pins := { u.pins with stpclk := false }, wake := true, discReq := false }
  let v := clocksDue { w with inputs := is }
  have h4 : runSteps 4 s = .next u :=
    runSteps_stopGrant_disconnect hinv hr hp hstp hconn ⟨hsg, hprobe, hdata, hnb, hcmd⟩ hi
  have h5 : step u = .next w := by
    obtain ⟨-, hdown, -⟩ := stpclkReleasedInStopGrant u q rfl hr rfl hstp
    exact hdown howe rfl
  have h9 : runSteps 4 w = .next (forwardClocks v) := runSteps_reconnect rfl hr rfl rfl rfl rfl hv
  have hlatched : v.latched.any = false := hinv.served hp
  obtain ⟨hdel, hout⟩ := (SameLatched.refl v).forwardClocks_fromWorking rfl rfl howe rfl
  obtain ⟨hx, hm, hcache, hpend⟩ := hdel.kept hlatched
  have hbus := forwardClocks_bus v
  refine ⟨⟨u, h4, rfl, rfl, rfl, rfl⟩, forwardClocks v, ?_, hdel.1, hbus.conn, hbus.clockDiv, hbus.inputs, ?_, hx, hm, hcache,
    hbus.clkCtl, ?_, hpend⟩
  · rw [runSteps_add (a := 4) (b := 5) h4, runSteps_next h5, h9]
  · rw [hout, latchedAck_none v hlatched]
    simp [v, w, u, clocksDue, stopGrantDisconnected]
  · rw [hbus.pins]
    simp [v, w, u, clocksDue, stopGrantDisconnected, hconn, hrdy, hclk]

end Sys2Proof.Proofs
end

section
/-! PROOFS. A wake-up event in a disconnected Halt, and a probe of a disconnected machine, run to their ends
(41_connect_protocol.md R188, R189). Then the statements. -/

namespace Sys2Proof.Machine

open Sys2Proof.Proofs

/-! ### An event latched in a disconnected Halt -/

@[simp] theorem mark_connect (k : Kind) (s : State) : (k.mark s).pins.connect = s.pins.connect := by cases k <;> rfl
@[simp] theorem mark_clkfwdrst (k : Kind) (s : State) : (k.mark s).pins.clkfwdrst = s.pins.clkfwdrst := by cases k <;> rfl
@[simp] theorem mark_period (k : Kind) (s : State) : (k.mark s).times.period = s.times.period := by cases k <;> rfl

/-- In a Halt that has not been woken nothing is latched. -/
theorem Inv.none_latched_in_halt {s : State} (h : Inv s) (hp : s.pm = .halt) (hw : s.wake = false) : s.latched.any = false := by
  by_contra hl
  have := h.waking (by simp [restPm_of_ne, hp]) (by simpa using hl)
  simp [hw] at this

/-- With one event latched, what is delivered is that event. -/
theorem Delivered.one {s t : State} {l : Latched} {k : Kind} {m : Opaque} (h : Delivered s t) (hl : l.any = false)
    (hs : s.latched = l.add k m) (hd : s.deliverable k = true) :
    t.x86 = (deliver k m s).x86 ∧ t.mem = (deliver k m s).mem ∧ t.cache = (deliver k m s).cache := by
  obtain ⟨-, -, hx, hm, hc, -⟩ := h
  rw [deliverLatched_one hl hs hd] at hx hm hc
  exact ⟨hx, hm, hc⟩

/-! ### A probe of a disconnected machine -/

theorem State.inS1_of_restPm {s : State} {r : Resting} (hp : s.restPm = r.toPower) :
    s.inS1 = true ↔ r = .stopGrant ∧ s.env.stpclkCause = .sleepS1 := by
  cases r <;> simp [State.inS1, leaveProbe_restPm, hp, Resting.toPower, -leaveProbe_pm]

theorem disconnectEnabled_iff {s : State} {r : Resting} (hp : s.restPm = r.toPower) :
    s.disconnectEnabled = true ↔ (r = .halt → s.env.nbDiscOnHalt = true) ∧ (r = .stopGrant → s.env.nbDiscOnSg = true) := by
  cases r with
  | halt => simp [disconnectEnabled_halt hp]
  | stopGrant => simp [disconnectEnabled_stopGrant hp]

/-- The Northbridge connects a machine that has not been woken, and Probe is entered (R189). -/
theorem runSteps_connect_to_probe {s : State} {is : List Input} {r : Resting} (hr : s.running = true) (hp : s.pm = r.toPower)
    (hc : s.conn = .disconnected) (hw : s.wake = false) (hconn : s.pins.connect = false) (hclk : s.pins.clkfwdrst = true)
    (hs1 : ¬(r = .stopGrant ∧ s.env.stpclkCause = .sleepS1))
    (hi : s.inputs = .connectAssert :: .clkfwdrstDeassert :: .fwdclkStart :: is) :
    runSteps 3 s = .next { clocksDue { s with inputs := is } with pm := .probe, probeRet := r, conn := .connected } := by
  let u : State := { s with
    inputs := .clkfwdrstDeassert :: .fwdclkStart :: is, conn := .connectPending1, clockDiv := 1
    pins := { s.pins with connect := true, procrdy := true }, out := s.out ++ [.procrdy true], pm := .probe, probeRet := r }
  obtain ⟨hprobe, -, -⟩ := northbridgeConnectEntersProbe s (.clkfwdrstDeassert :: .fwdclkStart :: is) r hi hr hc hp hconn
  have h1 : step s = .next u := hprobe hw hs1
  rw [runSteps_next h1, runSteps_clocks (s := u) rfl hr rfl hclk rfl, forwardClocks_unwoken (by exact hw)]
  exact comeTo_ok (vccCoreOk_of_ne (by simp [u]))

/-- A probe is answered and serviced, and Probe is left (40_power_states.md R151, R152). -/
theorem runSteps_probe_serviced {s : State} {is : List Input} {p : Opaque} (hr : s.running = true) (hp : s.pm = .probe)
    (hc : s.conn = .connected) (hs1 : s.inS1 = false) (hd : s.deferred = []) (hi : s.inputs = .probe p :: .probeDone :: is) :
    runSteps 2 s = .next { s with
      inputs := is, pm := s.probeRet.toPower, cache := probeEffect s.cache s.pins.a20m p
      out := s.out ++ [.probeResponse p], env := { s.env with probeOutstanding := false, probeDue := false }
      times := { s.times with commandAt := some s.times.now } } := by
  let u : State := { s with
    inputs := .probeDone :: is, cache := probeEffect s.cache s.pins.a20m p, out := s.out ++ [.probeResponse p]
    env := { s.env with probeOutstanding := true, probeDue := false }, times := { s.times with commandAt := some s.times.now } }
  have h1 : step s = .next u := (step_cons hi).trans (onProbe_connected (s := { s with inputs := .probeDone :: is }) p hr hc
    ((inS1_inputs s _).trans hs1))
  obtain ⟨h2, -⟩ := probeDoneReturns u is rfl hr hp
  rw [runSteps_next h1, runSteps_one, h2 hd]

end Sys2Proof.Machine

namespace Sys2Proof.Proofs

open Sys2Proof.Machine

/-- Settles O40: the event is latched, the bus connects again, and what is latched is delivered. -/
theorem wakeUpReachesWorking : Obligations.WakeUpReachesWorking := by
  intro s is k m hinv hr hp hc hwake hclk hd hv hi
  have hnone := hinv.none_latched_in_halt hp hwake
  obtain ⟨hconn, -⟩ := hinv.protocolPins_disconnected hr hc
  let q : List Input := .step false :: .connectAssert :: .clkfwdrstDeassert :: .fwdclkStart :: is
  let u : State := { k.mark { s with inputs := q } with latched := s.latched.add k m, wake := true, discReq := false }
  have h1 : step s = .next u := eventInDisconnectedHaltWakes s q k m hi hr hp (by simp [State.busUp, hc]) hd
  let v := clocksDue { u with inputs := is }
  have htol : (passTime (3 * u.times.period) u).vccInTolerance = true := by
    have hsteady := steady_mark k { s with inputs := q }
    rw [← hv, show s.times.period = u.times.period by simp [u]]
    exact vccInTolerance_passTime _ hsteady.level hsteady.above hsteady.below
  have h5 : runSteps 4 u = .next (forwardClocks v) := runSteps_reconnect (by simp [u, q]) (by simpa [State.running, u] using hr)
    (by simp [u, hc]) rfl (by simp [u, hconn]) (by simp [u, hclk]) htol
  let w : State := { s with pins := v.pins, latched := s.latched.add k m }
  have hsame : SameLatched w v := ⟨by constructor <;> simp [v, u, w, clocksDue], rfl⟩
  obtain ⟨hdel, hout⟩ := hsame.forwardClocks_halt rfl (by simp [v, u, clocksDue, hp])
  obtain ⟨hx, hm, hcache⟩ := hdel.one hnone rfl hd
  have hbus := forwardClocks_bus v
  have hread : SameForX86 w { s with pins := (forwardClocks v).pins } := ⟨rfl, rfl, rfl, hbus.pins.symm, rfl, rfl, rfl⟩
  have hdeliver := hread.deliver k m
  refine ⟨forwardClocks v, ?_, hdel.1, hbus.conn, hdel.2.1, hbus.inputs, ?_, ?_, hx.trans hdeliver.x86, hm.trans hdeliver.mem,
    hcache.trans hdeliver.cache⟩
  · rw [runSteps_next h1, h5]
  · rw [hout, latchedAck_one (s := w) hnone rfl hd]
    simp [v, u, w, clocksDue]
  · rw [hbus.pins]
    simp [v, u, clocksDue, mark_setInputs_pins]

/-- Settles O41: the connect to probe, the probe, the wait of R174, and the disconnect. -/
theorem probeRoundTrip : Obligations.ProbeRoundTrip := by
  intro s is p r hinv hr hp hc hwake hclk hdata hsg hhalt hperiod hi
  obtain ⟨hconn, hrdy⟩ := hinv.protocolPins_disconnected hr hc
  have hne : s.pm ≠ .working := hp ▸ toPower_ne_working r
  have hreq : s.discReq = true := by have := hinv.invited; simp_all
  have hnb : s.env.nbReset = false := by
    by_contra h
    simpa [hconn] using hinv.nbReset (by simpa using h)
  have hs1 : ¬(r = .stopGrant ∧ s.env.stpclkCause = .sleepS1) := fun ⟨hg, hcause⟩ => (hsg hg).1 hcause
  let q7 : List Input := .connectDeassert :: .step false :: is
  let q6 : List Input := .elapse 160000 :: q7
  let u : State := { clocksDue { s with inputs := .probe p :: .probeDone :: q6 } with
    pm := .probe, probeRet := r, conn := .connected }
  let v : State := { u with
      inputs := q6, pm := r.toPower, cache := probeEffect s.cache s.pins.a20m p, out := u.out ++ [.probeResponse p]
      env := { s.env with probeOutstanding := false, probeDue := false }
      times := { u.times with commandAt := some u.times.now } }
  let w : State := passTime 160000 { v with inputs := q7 }
  have h3 : runSteps 3 s = .next u := runSteps_connect_to_probe hr hp hc hwake hconn hclk hs1 hi
  have h5 : runSteps 2 u = .next v := by
    have hS1 : u.inS1 = false := by rw [← Bool.not_eq_true, State.inS1_of_restPm (s := u) rfl]; exact hs1
    exact runSteps_probe_serviced hr rfl rfl hS1 (hinv.nil_of_conn (by simp [hc])) rfl
  have h6 : step v = .next w :=
    (step_cons (s := v) (is := q7) rfl).trans (comeTo_ok (s := w) (vccCoreOk_of_ne (toPower_ne_working r)))
  have hrest : w.restPm = r.toPower := Power.behind_toPower r r
  have hmay : w.MayDisconnect := by
    refine ⟨hreq, (disconnectEnabled_iff hrest).2 ⟨hhalt, fun hg => (hsg hg).2⟩, rfl, hdata, hnb, fun c hcmd => ?_⟩
    obtain rfl : u.times.now = c := Option.some.inj hcmd
    exact Nat.add_le_add_left hperiod _
  let x : State := dropProcrdy (beginDisconnect { w with inputs := is })
  have h8 : runSteps 2 w = .next x := runSteps_disconnect rfl hr rfl rfl hmay
  refine ⟨x, ?_, hrest, rfl, hreq, hwake, rfl, ?_, rfl, ?_, ?_, ?_, rfl, rfl, rfl, rfl, rfl, rfl⟩
  · rw [runSteps_add (a := 3) (b := 5) h3, runSteps_add (a := 2) (b := 3) h5, runSteps_next h6, h8]
  · simp [x, w, v, u, clocksDue, beginDisconnect]
  · rintro rfl; exact disconnectDiv_halt (s := beginDisconnect w) hrest
  · rintro rfl; exact disconnectDiv_stopGrant (s := beginDisconnect w) hrest
  · simp [x, w, v, u, clocksDue, beginDisconnect, hconn, hrdy]

end Sys2Proof.Proofs
end

section
/-! PROOFS. How the low-power state is entered and left (41_connect_protocol.md R185, R188, R189): every operation keeps it, but for
PROCRDY's two edges and RESET#. Then the statement. -/

namespace Sys2Proof.Machine

/-! ### Operations that keep the low-power state -/

/-- The low-power state is neither entered nor left from `s` to `t`. -/
def SameLowPower (s t : State) : Prop := t.lowPower = s.lowPower

theorem SameLowPower.of_conn {s t : State} (h : t.conn = s.conn) : SameLowPower s t := by
  simp [SameLowPower, State.lowPower, h]

theorem SameLowPower.trans {s t u : State} (h : SameLowPower s t) (h' : SameLowPower t u) : SameLowPower s u := Eq.trans h' h

/-- An answer that is given is the state answered. -/
theorem SameLowPower.of_next {s t u : State} (h : (.next u : Result) = .next t) (hu : SameLowPower s u) : SameLowPower s t := by
  injection h with h; exact h ▸ hu

theorem sameLowPower_leaveProbe (s : State) : SameLowPower s (leaveProbe s) := .of_conn (by simp)

theorem sameLowPower_markPin (p : EventPin) (b : Bool) (s : State) : SameLowPower s (markPin p b s) := .of_conn (by simp)

/-- A wake-up event connects a bus that operates, which is not the low-power state; one that is off stays off. -/
theorem sameLowPower_wakeUp {k : State → State} (hk : ∀ u, SameLowPower u (k u)) (s : State) : SameLowPower s (wakeUp k s) := by
  cases hb : s.busUp with
  | true =>
    have hs : s.lowPower = false := by
      rcases (by simpa [State.busUp] using hb : s.conn = .connected ∨ s.conn = .disconnectPending) with h | h <;>
        simp [State.lowPower, h]
    have hc : SameLowPower s (cancelDisconnect s) := Eq.trans (b := false) (by simp [State.lowPower]) hs.symm
    rw [wakeUp_up k s hb]
    exact hc.trans (hk _)
  | false => rw [wakeUp_down k s hb]; rfl

theorem sameLowPower_finishHalt (s : State) : SameLowPower s (finishHalt s) := .of_conn (by simp [finishHalt])

theorem sameLowPower_finishOwedStopGrant (s : State) : SameLowPower s (finishOwedStopGrant s) := rfl

theorem sameLowPower_finishStopGrant (s : State) : SameLowPower s (finishStopGrant s) := by
  unfold finishStopGrant returnToHalt
  split
  · split
    · exact .trans (t := reenterHalt s) rfl (sameLowPower_wakeUp sameLowPower_finishHalt _)
    · rfl
  · exact sameLowPower_finishHalt s

theorem sameLowPower_stopGrantFromHalt (s : State) : SameLowPower s (stopGrantFromHalt s) :=
  .trans (t := { s with pm := .stopGrant, sgFromHalt := true, oweSg := true }) rfl
    (sameLowPower_wakeUp sameLowPower_finishOwedStopGrant _)

theorem sameLowPower_stpclkEdge (b : Bool) (s : State) : SameLowPower s (stpclkEdge b s) := by
  unfold stpclkEdge
  split
  · exact sameLowPower_stopGrantFromHalt s
  · exact sameLowPower_wakeUp sameLowPower_finishStopGrant s
  all_goals rfl

theorem sameLowPower_takeOrLatch (k : Kind) (m : Opaque) (s : State) : SameLowPower s (takeOrLatch k m s) := by
  unfold takeOrLatch
  split
  · exact .of_conn (by simp)
  · exact .trans (t := latch k m s) rfl (sameLowPower_wakeUp sameLowPower_finishHalt _)
  all_goals rfl

theorem sameLowPower_onEvent (k : Kind) (m : Opaque) (s : State) : SameLowPower s (onEvent k m s) := by
  unfold onEvent
  split
  · split
    · rfl
    · exact (sameLowPower_leaveProbe s).trans (sameLowPower_takeOrLatch k m _)
  · rfl

theorem sameLowPower_serveAll (ds : List Deferred) (s : State) : SameLowPower s (ds.foldl serve s) := by
  induction ds generalizing s with
  | nil => rfl
  | cons d ds ih =>
    refine .trans ?_ (ih _)
    cases d with
    | event k m => exact sameLowPower_takeOrLatch k m s
    | stpclk b => exact .trans (t := { s with pins := { s.pins with stpclk := b } }) rfl (sameLowPower_stpclkEdge b _)

theorem sameLowPower_enterProbe (s : State) : SameLowPower s (enterProbe s) := by
  unfold enterProbe
  split <;> rfl

/-! ### Instructions -/

theorem exec_conn {s t : State} (i : Instr) (h : exec i s = .next t) : t.conn = s.conn := by
  cases i
  case hlt =>
    obtain ⟨-, h⟩ := require_next.1 h
    injection h with h; subst h
    split <;> rfl
  case cpuid => injection h with h; subst h; rfl
  case rdmsr =>
    simp only [exec, execRdmsr] at h
    split at h <;> injection h with h <;> subst h <;> rfl
  case wrmsr =>
    simp only [exec, execWrmsr] at h
    split at h
    · obtain ⟨-, h⟩ := require_next.1 h
      injection h with h; subst h; rfl
    · injection h with h; subst h; rfl

theorem runDecoded_conn {s t : State} (d : Decoded) (h : runDecoded d s = .next t) : t.conn = s.conn := by
  have foreign : runForeign s = .next t → t.conn = s.conn := fun h => by
    unfold runForeign at h
    split at h
    · injection h with h; subst h; rfl
    · simp at h
  cases d
  case ours => exact exec_conn _ h
  all_goals exact foreign h

/-- A fetch keeps the bus as it is if what goes on with its byte does. -/
theorem fetchThen_conn {s t : State} {k : Nat} {go : Byte → State → Result}
    (hgo : ∀ b u, go b u = .next t → t.conn = u.conn) (h : fetchThen k go s = .next t) : t.conn = s.conn := by
  rcases fetchThen_next h with rfl | ⟨b, n, h⟩
  · rfl
  · exact hgo b { s with free := n } h

theorem atBoundary_conn {s t : State} (h : atBoundary s = .next t) : t.conn = s.conn := by
  unfold atBoundary at h
  split at h
  · injection h with h; subst h; simp
  · refine fetchThen_conn (fun b u h => ?_) h
    split at h
    · exact fetchThen_conn (fun c v h => runDecoded_conn _ h) h
    · exact runDecoded_conn _ h

/-! ### The inputs that may enter or leave it -/

/-- Where the low-power state may be entered or left: PROCRDY falls (R185 condition 3) or rises after a wake-up event (condition 4,
R188) by an own step; CONNECT rises (R189); RESET# (70_reset_and_hazards.md R461). -/
inductive MaySwitch : Input → State → Prop
  | answers {s : State} (r : Bool) (h : s.conn = .disconnectPending) : MaySwitch (.step r) s
  | wakes {s : State} (r : Bool) (h : s.lowPower = true) (hw : s.wake = true) : MaySwitch (.step r) s
  | connects {s : State} (h : s.lowPower = true) : MaySwitch .connectAssert s
  | resets {s : State} (h : s.lowPower = true) : MaySwitch .resetAssert s

theorem lowPower_ownStep {s t : State} {r : Bool} (h : ownStep r s = .next t) : SameLowPower s t ∨ MaySwitch (.step r) s := by
  rcases ownStep_cases h with ⟨-, rfl⟩ | h
  · left
    unfold recogniseStpclk
    split
    · rfl
    · exact sameLowPower_stopGrantFromHalt s
    all_goals rfl
  · unfold ownWork at h
    split at h
    · split at h
      · exact .inr (.answers r ‹_›)
      · split at h
        · exact .inr (.wakes r (by simpa [State.lowPower]) ‹_›)
        · exact .inl (.of_next h rfl)
      · split at h
        · exact .inl (.of_conn (atBoundary_conn h))
        · exact .inl (.of_next h rfl)
      all_goals exact .inl (.of_next h rfl)
    · exact .inl (.of_next h rfl)

theorem lowPower_onConnectAssert {s t : State} (h : onConnectAssert s = .next t) :
    SameLowPower s t ∨ MaySwitch .connectAssert s := by
  cases hs : s.lowPower with
  | true => exact .inr (.connects hs)
  | false =>
    left
    obtain ⟨-, h⟩ := require_next.1 h
    split at h
    · split at h
      · rename_i hc; simp [State.lowPower, hc] at hs
      · exact .of_next h rfl
      · exact .of_next h rfl
      · exact .of_next h rfl
      · simp at h
    · refine .of_next h ?_
      unfold sampleConnect
      split <;> rfl

theorem lowPower_onResetAssert {s t : State} (h : onResetAssert s = .next t) : SameLowPower s t ∨ MaySwitch .resetAssert s := by
  cases hs : s.lowPower with
  | true => exact .inr (.resets hs)
  | false => exact .inl (.of_next (require_next.1 h).2 hs.symm)

/-! ### The inputs that keep it -/

theorem sameLowPower_event {s t : State} (k : Kind) (m : Opaque) (h : onInput (k.input m) s = .next t) : SameLowPower s t := by
  rw [onInput_kind] at h
  obtain ⟨-, rfl⟩ := comeTo_next.1 h
  exact .trans (t := k.mark s) (.of_conn (by simp)) (sameLowPower_onEvent _ _ _)

theorem sameLowPower_onStpclkAssert {s t : State} {c : StpclkCause} (h : onStpclkAssert c s = .next t) : SameLowPower s t := by
  obtain ⟨-, h⟩ := require_next.1 h
  refine .of_next h ?_
  split
  · split
    · rfl
    · exact .trans (t := leaveProbe (markStpclk c s)) (sameLowPower_leaveProbe _) (sameLowPower_stpclkEdge true _)
  · rfl

theorem sameLowPower_onStpclkDeassert {s t : State} (h : onStpclkDeassert s = .next t) : SameLowPower s t := by
  obtain ⟨-, h⟩ := require_next.1 h
  have hl : SameLowPower s (leaveProbe (markPin .stpclk false s)) := sameLowPower_leaveProbe _
  split at h
  · split at h
    · exact .of_next h rfl
    · simp only at h
      split at h
      · obtain ⟨-, rfl⟩ := comeTo_next.1 (require_next.1 h).2
        exact hl.trans (sameLowPower_stpclkEdge false _)
      all_goals exact .of_next h hl
  · exact .of_next h rfl

theorem sameLowPower_onRelease {s t : State} {p : EventPin} (h : onRelease p s = .next t) : SameLowPower s t := by
  cases p
  case stpclk => exact sameLowPower_onStpclkDeassert h
  case reset =>
    simp only [onRelease, onResetDeassert, require_next] at h
    obtain ⟨-, -, -, h⟩ := h
    exact .of_next h rfl
  all_goals exact .of_next h rfl

/-- CONNECT falls on a connected bus, and the request is pending: neither is the low-power state. -/
theorem sameLowPower_onConnectDeassert {s t : State} (h : onConnectDeassert s = .next t) : SameLowPower s t := by
  simp only [onConnectDeassert, require_next] at h
  obtain ⟨-, -, h⟩ := h
  split at h
  · split at h
    · rename_i hc
      simp only [require_next] at h
      obtain ⟨-, -, -, -, h⟩ := h
      exact .of_next h (by simp [SameLowPower, State.lowPower, hc])
    all_goals simp at h
  · exact .of_next h rfl

theorem sameLowPower_onClkfwdrstAssert {s t : State} (h : onClkfwdrstAssert s = .next t) : SameLowPower s t := by
  obtain ⟨-, h⟩ := require_next.1 h
  split at h
  · exact .of_next (require_next.1 h).2 rfl
  · exact .of_next h rfl

theorem sameLowPower_onClkfwdrstDeassert {s t : State} (h : onClkfwdrstDeassert s = .next t) : SameLowPower s t := by
  obtain ⟨-, h⟩ := require_next.1 h
  split at h
  · simp only [require_next, beq_iff_eq] at h
    obtain ⟨hc, -, h⟩ := h
    exact .of_next h (by simp [SameLowPower, State.lowPower, hc])
  · exact .of_next h rfl

theorem sameLowPower_onFwdclkStart {s t : State} (h : onFwdclkStart s = .next t) : SameLowPower s t := by
  obtain ⟨hc, h⟩ := require_next.1 h
  simp only [Bool.and_eq_true, beq_iff_eq] at hc
  split at h
  · simp at h
  · obtain ⟨-, rfl⟩ := comeTo_next.1 (require_next.1 h).2
    simp [SameLowPower, State.lowPower, (forwardClocks_bus _).conn, hc.2]

theorem sameLowPower_onProbeDone {s t : State} (h : onProbeDone s = .next t) : SameLowPower s t := by
  simp only [onProbeDone] at h
  split at h
  · obtain ⟨-, rfl⟩ := comeTo_next.1 h
    rw [serveDeferred_leaveProbe]
    exact .trans (t := s.serviced) (sameLowPower_leaveProbe _) (sameLowPower_serveAll _ _)
  · exact .of_next h rfl

/-- A SIP ends in the Connected state, and the machine that waits for it is not in low power. -/
theorem sameLowPower_onSipDone {s t : State} {cfg : SipConfig} (hi : Inv s) (h : onSipDone cfg s = .next t) : SameLowPower s t := by
  simp only [onSipDone, require_next, Bool.and_eq_true, beq_iff_eq] at h
  obtain ⟨⟨-, hrst⟩, -, -, h⟩ := h
  obtain ⟨-, rfl⟩ := comeTo_next.1 h
  obtain ⟨hw, -⟩ := hi.cleared (by simp [hrst])
  simp [SameLowPower, State.lowPower, hi.working hw]

theorem sameLowPower_onNbReset {s t : State} {b : Bool} (h : onNbReset b s = .next t) : SameLowPower s t := by
  unfold onNbReset at h
  split at h
  · exact .of_next (require_next.1 h).2 rfl
  · exact .of_next h rfl

theorem sameLowPower_onPwrokAssert {s t : State} (h : onPwrokAssert s = .next t) : SameLowPower s t := by
  simp only [onPwrokAssert, require_next] at h
  obtain ⟨-, -, -, -, h⟩ := h
  exact .of_next h rfl

theorem sameLowPower_onSampleFid {s t : State} (h : onSampleFid s = .next t) : SameLowPower s t := by
  unfold onSampleFid at h
  split at h <;> exact .of_next h rfl

theorem sameLowPower_onSysclkPeriod {s t : State} {ps : Nat} (h : onSysclkPeriod ps s = .next t) : SameLowPower s t := by
  obtain ⟨-, h⟩ := require_next.1 h
  split at h
  · exact .of_next (require_next.1 h).2 rfl
  · exact .of_next h rfl

theorem sameLowPower_onRail {s t : State} {r : Rail} {mv : Int} {d : Nat} (h : onRail r mv d s = .next t) : SameLowPower s t := by
  obtain ⟨u, hu, h⟩ := andThen_next.1 (require_next.1 h).2
  obtain ⟨-, rfl⟩ := letPass_next.1 h
  suffices SameLowPower s u from this
  cases r
  case vccCore =>
    rcases setVccCore_next hu with ⟨-, -, h⟩ | ⟨-, -, h⟩ | ⟨-, rfl⟩
    · obtain ⟨-, rfl⟩ := onVccCoreOn_next.1 h; rfl
    · obtain ⟨-, rfl⟩ := removeVccCore_next.1 h; rfl
    · rfl
  case vcca => refine .of_next hu ?_; split <;> rfl
  all_goals exact .of_next hu rfl

theorem sameLowPower_onBusWrite {s t : State} {a : Addr} {b : Byte} (h : onBusWrite a b s = .next t) : SameLowPower s t := by
  obtain ⟨-, rfl⟩ := busMaster_next.1 h
  rfl

theorem sameLowPower_onBusRead {s t : State} {a : Addr} (h : onBusRead a s = .next t) : SameLowPower s t := by
  obtain ⟨-, rfl⟩ := busMaster_next.1 h
  rfl

/-! ### Every step -/

/-- Of the inputs, a pulse apart, three may enter or leave the low-power state. -/
theorem lowPower_onInput {s t : State} {i : Input} (hi : Inv s) (hp : ∀ p d, i ≠ .pulse p d) (h : onInput i s = .next t) :
    SameLowPower s t ∨ MaySwitch i s := by
  cases i with
  | step => exact lowPower_ownStep h
  | connectAssert => exact lowPower_onConnectAssert h
  | resetAssert => exact lowPower_onResetAssert h
  | pulse p d => exact absurd rfl (hp p d)
  | stpclkAssert => exact .inl (sameLowPower_onStpclkAssert h)
  | stpclkDeassert => exact .inl (sameLowPower_onStpclkDeassert h)
  | intr => exact .inl (sameLowPower_event .intr 0 h)
  | nmi => exact .inl (sameLowPower_event .nmi 0 h)
  | smi => exact .inl (sameLowPower_event .smi 0 h)
  | init => exact .inl (sameLowPower_event .init 0 h)
  | apicMsg m => exact .inl (sameLowPower_event .apic m h)
  | release p => exact .inl (sameLowPower_onRelease h)
  | vector => exact .inl (.of_next h rfl)
  | resetDeassert => exact .inl (sameLowPower_onRelease (p := .reset) h)
  | nbReset => exact .inl (sameLowPower_onNbReset h)
  | pwrokAssert => exact .inl (sameLowPower_onPwrokAssert h)
  | pwrokDeassert => exact .inl (.of_next (require_next.1 (require_next.1 h).2).2 rfl)
  | sampleFid => exact .inl (sameLowPower_onSampleFid h)
  | sipDone => exact .inl (sameLowPower_onSipDone hi h)
  | connectDeassert => exact .inl (sameLowPower_onConnectDeassert h)
  | clkfwdrstAssert => exact .inl (sameLowPower_onClkfwdrstAssert h)
  | clkfwdrstDeassert => exact .inl (sameLowPower_onClkfwdrstDeassert h)
  | fwdclkStart => exact .inl (sameLowPower_onFwdclkStart h)
  | probe => exact .inl (.of_next (require_next.1 (require_next.1 h).2).2 rfl)
  | probeDone => exact .inl (sameLowPower_onProbeDone h)
  | command => exact .inl (.of_next (require_next.1 h).2 rfl)
  | dataMovement => exact .inl (.of_next h rfl)
  | nbEnables => exact .inl (.of_next h rfl)
  | busWrite => exact .inl (sameLowPower_onBusWrite h)
  | busRead a => exact .inl (sameLowPower_onBusRead (a := a) h)
  | a20m => exact .inl (.of_next h rfl)
  | ignne => exact .inl (.of_next h rfl)
  | tieOff => simp [onInput, onTieOff] at h
  | sysclk => exact .inl (.of_next (require_next.1 h).2 rfl)
  | sysclkPeriod => exact .inl (sameLowPower_onSysclkPeriod h)
  | picclk => exact .inl (.of_next (require_next.1 h).2 rfl)
  | supply33Good => exact .inl (.of_next h rfl)
  | supply33Lost => exact .inl (.of_next h rfl)
  | vccaGood => exact .inl (.of_next h rfl)
  | vccCoreOn => obtain ⟨-, rfl⟩ := onVccCoreOn_next.1 h; exact .inl rfl
  | powerOff => obtain ⟨-, rfl⟩ := removeVccCore_next.1 h; exact .inl rfl
  | rail => exact .inl (sameLowPower_onRail h)
  | dieTemp => exact .inl (.of_next (require_next.1 h).2 rfl)
  | elapse => obtain ⟨-, rfl⟩ := letPass_next.1 h; exact .inl rfl
  | speculate => refine .inl (.of_next h ?_); split <;> rfl

theorem Meanwhile.sameLowPower {s t : State} (h : Meanwhile s t) : SameLowPower s t := by
  obtain ⟨_, _, _, rfl⟩ := h
  rfl

/-- A state may enter or leave it as long as nothing but time passes. -/
theorem Meanwhile.maySwitch {i : Input} {s t : State} (h : Meanwhile s t) (ht : MaySwitch i t) : MaySwitch i s := by
  obtain ⟨_, _, _, rfl⟩ := h
  cases ht with
  | answers r h => exact .answers r h
  | wakes r h hw => exact .wakes r h hw
  | connects h => exact .connects h
  | resets h => exact .resets h

/-- Of the pulses RESET#'s may leave it, at its assertion. -/
theorem Pulsed.lowPower {p : EventPin} {s t : State} (h : Pulsed p s t) (hi : Inv s) :
    SameLowPower s t ∨ MaySwitch p.asserting s := by
  obtain ⟨u, v, w, hu, ha, hv, ht⟩ := h
  refine (lowPower_onInput (hu.inv hi) (by cases p <;> simp [EventPin.asserting]) ha).imp (fun hs => ?_) hu.maySwitch
  exact hu.sameLowPower.trans (hs.trans (hv.sameLowPower.trans (sameLowPower_onRelease ht)))

/-- The next step acts by the input `i`: it is at the head of the schedule, or the processor's own with no input left, or the assertion
of a pulse at the head. -/
def State.ActsBy (s : State) (i : Input) : Prop :=
  s.inputs.head? = some i ∨ (s.inputs = [] ∧ ∃ r, i = .step r) ∨
    ∃ p d, s.inputs.head? = some (.pulse p d) ∧ i = p.asserting

theorem State.ActsBy.own {s : State} {r : Bool} (h : s.ActsBy (.step r)) :
    s.inputs = [] ∨ ∃ r, s.inputs.head? = some (.step r) := by
  rcases h with h | ⟨h, -⟩ | ⟨p, d, -, hp⟩
  · exact .inr ⟨r, h⟩
  · exact .inl h
  · cases p <;> simp [EventPin.asserting] at hp

theorem State.ActsBy.connect {s : State} (h : s.ActsBy .connectAssert) : s.inputs.head? = some .connectAssert := by
  rcases h with h | ⟨-, r, hr⟩ | ⟨p, d, -, hp⟩
  · exact h
  · simp at hr
  · cases p <;> simp [EventPin.asserting] at hp

theorem State.ActsBy.reset {s : State} (h : s.ActsBy .resetAssert) :
    s.inputs.head? = some .resetAssert ∨ ∃ d, s.inputs.head? = some (.pulse .reset d) := by
  rcases h with h | ⟨-, r, hr⟩ | ⟨p, d, h, hp⟩
  · exact .inl h
  · simp at hr
  · obtain rfl : p = .reset := by cases p <;> simp [EventPin.asserting] at hp ⊢
    exact .inr ⟨d, h⟩

/-- A step enters or leaves it by an input that may. -/
theorem lowPower_step {s t : State} (hi : Inv s) (h : step s = .next t) :
    SameLowPower s t ∨ ∃ i, MaySwitch i s ∧ s.ActsBy i := by
  unfold State.ActsBy
  cases hq : s.inputs with
  | nil =>
    obtain ⟨r, u, hu, h⟩ := ownStepFree_cases (step_nil hq ▸ h)
    exact (lowPower_ownStep h).imp hu.sameLowPower.trans fun hs => ⟨_, hu.maySwitch hs, .inr (.inl ⟨rfl, r, rfl⟩)⟩
  | cons i is =>
    have hs : Meanwhile s { s with inputs := is } := ⟨s.times, is, s.free, rfl⟩
    rw [step_cons hq] at h
    by_cases hp : ∃ p d, i = .pulse p d
    · obtain ⟨p, d, rfl⟩ := hp
      rcases onPulse_cases h with ht | ht
      · exact .inl (hs.trans ht).sameLowPower
      · exact (ht.lowPower (hs.inv hi)).imp id fun hsw => ⟨_, hs.maySwitch hsw, .inr (.inr ⟨p, d, rfl, rfl⟩)⟩
    · exact (lowPower_onInput (hs.inv hi) (fun p d hi => hp ⟨p, d, hi⟩) h).imp id fun hsw => ⟨i, hs.maySwitch hsw, .inl rfl⟩

end Sys2Proof.Machine

namespace Sys2Proof.Proofs

open Sys2Proof.Machine

/-- Settles O60: the input a step acts by, where it enters or leaves low power, is one that may. -/
theorem lowPowerEntryAndExit : Obligations.LowPowerEntryAndExit := by
  intro s t hi h
  have hswitch : s.lowPower ≠ t.lowPower → ∃ i, MaySwitch i s ∧ s.ActsBy i := fun hne =>
    (lowPower_step hi h).resolve_left (Ne.symm hne)
  refine ⟨fun hs ht => ?_, fun hs ht => ?_⟩
  · obtain ⟨i, hm, hq⟩ := hswitch (by simp [hs, ht])
    cases hm with
    | answers r hc => exact ⟨hc, hq.own⟩
    | wakes r h => simp [hs] at h
    | connects h => simp [hs] at h
    | resets h => simp [hs] at h
  · obtain ⟨i, hm, hq⟩ := hswitch (by simp [hs, ht])
    cases hm with
    | answers r hc => simp [State.lowPower, hc] at hs
    | wakes r _ hw => exact .inl ⟨hw, hq.own⟩
    | connects => exact .inr (.inl hq.connect)
    | resets => exact .inr (.inr hq.reset)

end Sys2Proof.Proofs
end

section
/-! PROOFS. The four instructions (42_instructions.md R210, R214, R217, R218): one equation for each case of HLT, RDMSR and WRMSR, the
values they move, and the memory `X86_ISA`'s stores leave alone. Then the statements of this family. -/

namespace Sys2Proof.Machine

/-! ### The cases of the instructions -/

section Cases

variable {s : State}

theorem exec_hlt_notWorking (h : s.pm ≠ .working) : exec .hlt s = .refused .notWorking := by
  simp [exec, execHlt, beq_eq_false_iff_ne.2 h]

theorem exec_hlt_forbidden (hp : s.pm = .working) (hx : s.x86.privileged = false) :
    exec .hlt s = .next (decidedByX86 .hlt s) := by
  simp [exec, execHlt, hp, hx]

/-- RDMSR and WRMSR reach CLK_Ctl where the mode allows them and ECX holds its address (R217, R218). -/
theorem reachesClkCtl_iff {x : X86} :
    (x.privileged && msrAddress x == clkCtlAddress) = true ↔ x.privileged = true ∧ x.gpr.ecx = 0xC001001B#32 := by
  simp [msrAddress, clkCtlAddress]

theorem not_reachesClkCtl {x : X86} (h : x.privileged = false ∨ x.gpr.ecx ≠ 0xC001001B#32) :
    ¬(x.privileged && msrAddress x == clkCtlAddress) = true := by
  rw [reachesClkCtl_iff]
  rintro ⟨hx, ha⟩
  rcases h with h | h
  · simp [hx] at h
  · exact h ha

theorem exec_rdmsr_clkCtl (hx : s.x86.privileged = true) (ha : s.x86.gpr.ecx = 0xC001001B#32) :
    exec .rdmsr s = .next { advance .rdmsr s with x86 := setMsrResult s.clkCtl (advance .rdmsr s).x86 } :=
  if_pos (reachesClkCtl_iff.2 ⟨hx, ha⟩)

theorem exec_rdmsr_other (h : s.x86.privileged = false ∨ s.x86.gpr.ecx ≠ 0xC001001B#32) :
    exec .rdmsr s = .next (decidedByX86 .rdmsr s) :=
  if_neg (not_reachesClkCtl h)

theorem exec_wrmsr_clkCtl (hx : s.x86.privileged = true) (ha : s.x86.gpr.ecx = 0xC001001B#32) :
    exec .wrmsr s = require (writeAllowed s.clkCtl (msrValue s.x86)) .reservedBitsChanged
      (.next { advance .wrmsr s with clkCtl := msrValue s.x86 }) :=
  if_pos (reachesClkCtl_iff.2 ⟨hx, ha⟩)

theorem exec_wrmsr_other (h : s.x86.privileged = false ∨ s.x86.gpr.ecx ≠ 0xC001001B#32) :
    exec .wrmsr s = .next (decidedByX86 .wrmsr s) :=
  if_neg (not_reachesClkCtl h)

end Cases

/-! ### The values they move -/

/-- EDX:EAX as a number (93 G2). -/
theorem msrValue_eq_ofNat (x : X86) : msrValue x = BitVec.ofNat 64 (x.gpr.edx.toNat * 2 ^ 32 + x.gpr.eax.toNat) := by
  apply BitVec.eq_of_toNat_eq
  have hd := x.gpr.edx.isLt
  have ha := x.gpr.eax.isLt
  rw [msrValue, BitVec.toNat_append, ← Nat.shiftLeft_add_eq_or_of_lt ha, Nat.shiftLeft_eq, BitVec.toNat_ofNat]
  omega

/-- RDMSR's result: EAX has the low half, EDX the high half (R217). -/
theorem setMsrResult_eq (v : Quad) (x : X86) : setMsrResult v x =
    { x with gpr := { x.gpr with eax := v.setWidth 32, edx := (v >>> 32).setWidth 32 } } := by
  rw [setMsrResult, BitVec.setWidth_ushiftRight_eq_extractLsb, BitVec.setWidth_eq_extractLsb' (by decide)]

/-- WRMSR is allowed exactly the values the spec writes and those that keep the reserved bits (R218 (b); 93 U3). -/
theorem writeAllowed_iff {old new : Quad} : writeAllowed old new = true ↔
    new = 0x20031223#64 ∨ new = 0#64 ∨ (old ^^^ new) &&& Config.clkCtlReserved = 0#64 := by
  simp [writeAllowed, statedWrites, clkCtlKnown, or_assoc]

/-! ### Memory after an instruction -/

/-- The stores of a call of `X86_ISA` leave every byte they do not go to. -/
theorem storeAll_read_other {a20m : Bool} {ws : List Store} {m : Memory} {x : Nat}
    (h : ∀ w ∈ ws, ∀ k < w.n, phys a20m (w.addr + BitVec.ofNat 64 k) ≠ x) : (storeAll a20m ws m).read x = m.read x := by
  induction ws generalizing m with
  | nil => rfl
  | cons w ws ih =>
    rw [List.forall_mem_cons] at h
    obtain ⟨hw, hws⟩ := h
    calc (storeAll a20m (w :: ws) m).read x
      _ = (memWrite m a20m w.addr w.n w.v).read x := ih hws
      _ = m.read x := memWrite_read_other m a20m w.addr w.n w.v x hw

/-- An answer with the memory there was has its bytes. -/
theorem read_of_next_eq {o : Result} {s u : State} (ho : o = .next u) (hm : u.mem = s.mem) :
    ∀ t, o = .next t → ∀ x, t.mem.read x = s.mem.read x := by
  rintro t ht x
  obtain rfl : u = t := by simpa [ho] using ht
  rw [hm]

end Sys2Proof.Machine

namespace Sys2Proof.Proofs

open Sys2Proof.Machine

/-- Settles O7. -/
theorem hltOutsideWorkingRefused : Obligations.HltOutsideWorkingRefused :=
  fun _ => exec_hlt_notWorking

/-- Settles O9: CPUID has one case, and writes no memory. -/
theorem cpuidReadsTable : Obligations.CpuidReadsTable :=
  fun _ => ⟨⟨_, rfl⟩, read_of_next_eq rfl rfl⟩

/-- Settles O10: RDMSR reaches CLK_Ctl, whose halves are the registers' values. -/
theorem rdmsrReadsClkCtl : Obligations.RdmsrReadsClkCtl := by
  intro s hx ha
  have hexec := exec_rdmsr_clkCtl hx ha
  refine ⟨⟨(advance .rdmsr s).x86.fetch, ?_⟩, read_of_next_eq hexec rfl⟩
  rw [hexec, setMsrResult_eq]
  rfl

/-- Settles O11: WRMSR reaches CLK_Ctl, and its requirement is that the value is one the spec writes or keeps the reserved bits. -/
theorem wrmsrWritesClkCtl : Obligations.WrmsrWritesClkCtl := by
  intro s hx ha v kept
  have hv : msrValue s.x86 = v := msrValue_eq_ofNat s.x86
  have hallowed : writeAllowed s.clkCtl v = true ↔ kept := writeAllowed_iff
  have hexec := exec_wrmsr_clkCtl hx ha
  rw [hv] at hexec
  refine ⟨fun hk => ⟨(advance .wrmsr s).x86.fetch, ?_⟩, fun hk => ?_, fun t ht => ?_⟩
  · rw [hexec, hallowed.2 hk]
    rfl
  · rw [hexec, Bool.eq_false_iff.2 (mt hallowed.1 hk)]
    rfl
  · obtain ⟨-, ht⟩ := require_next.1 (hexec ▸ ht)
    exact read_of_next_eq ht.symm rfl _ rfl

/-- Settles O12: in each of these cases the instruction is `X86_ISA`'s to decide. -/
theorem x86DecidesTheRest : Obligations.X86DecidesTheRest := by
  intro s i hcpuid hhlt hmsr e
  have hdecided : exec i s = .next (decidedByX86 i s) := by
    cases i with
    | hlt =>
      obtain ⟨hp, hx⟩ := hhlt rfl
      exact exec_hlt_forbidden hp hx
    | cpuid => exact absurd rfl hcpuid
    | rdmsr => exact exec_rdmsr_other (hmsr nofun)
    | wrmsr => exact exec_wrmsr_other (hmsr nofun)
  exact ⟨hdecided, fun _ => storeAll_read_other⟩

end Sys2Proof.Proofs
end

section
/-! PROOFS. The strap codes (45_signals.md R340, R341, R346, R355) and what each product carries on them (44_mechanical_ordering.md R296,
R297). Then the statement. -/

namespace Sys2Proof.Machine

/-! ### The code tables -/

/-- Table 20 is linear from its code 0100 on, around the end of the code space; code 0011, the last
of that line, is left out: its row is a lower bound. -/
theorem fidRatio_of_ne : ∀ f : BitVec 4, f ≠ 0b0011#4 → fidRatio f = some (.exactly (10 + (f - 4).toNat)) := by
  decide

theorem vidMillivolts_of_lt : ∀ v : BitVec 5, v.toNat < 31 → vidMillivolts v = some (1850 - 25 * v.toNat) := by
  decide

/-! ### What a product carries -/

/-- R340 note 1: the ratios of 12.5 and 13 share the code of 12.5 or more, and 11 has a row of its own. -/
theorem fidOfRatio_ratioHalves (p : Part) : fidOfRatio p.ratioHalves = some p.fid := by
  cases p with
  | xp2500 => rfl
  | xp2800 => rfl
  | xp3000 => rfl

/-- VID is 01000 on every product, which has one bit set. -/
theorem Part.vid_getLsbD (p : Part) : ∀ b : Fin 5, p.vid.getLsbD b.val = decide (b = 3) :=
  show ∀ b : Fin 5, (0b01000#5).getLsbD b.val = decide (b = 3) by decide

theorem Part.strapPin_vid (p : Part) (b : Fin 5) :
    p.strapPin (.vid b) = some (if b = 3 then .openCircuit else .grounded) := by
  simp only [Part.strapPin, vidPin, p.vid_getLsbD, decide_eq_true_eq]

/-- FSB_Sense is 01 on every product. -/
theorem Part.fsbSense_getLsbD (p : Part) : ∀ b : Fin 2, p.fsbSense.getLsbD b.val = decide (b = 0) :=
  show ∀ b : Fin 2, (0b01#2).getLsbD b.val = decide (b = 0) by decide

theorem Part.strapPin_fsbSense (p : Part) (b : Fin 2) :
    p.strapPin (.fsbSense b) = some (if b = 0 then .openCircuit else .groundedThrough 1000) := by
  simp only [Part.strapPin, fsbSensePin, p.fsbSense_getLsbD, decide_eq_true_eq]

/-! ### The ordering part number -/

namespace Package

/-- Part numbers differ in the model number alone, and no two products share that. -/
theorem render_inj {p q : Part} : Opn.render ⟨p⟩ = Opn.render ⟨q⟩ ↔ p = q := by
  have hmodel : modelChars p = modelChars q ↔ p = q := by cases p <;> cases q <;> decide
  simp [Opn.render, hmodel]

theorem decodeOpn_render (p : Part) : decodeOpn (Opn.render ⟨p⟩) = some (product p) := by
  cases p with
  | xp2500 => simp [decodeOpn]
  | xp2800 => simp [decodeOpn, render_inj]
  | xp3000 => simp [decodeOpn, render_inj]

end Package

theorem Electrical.operatingPoint_dieMaxC (p : Part) :
    (Electrical.operatingPoint p).dieMaxC = (Package.product p).dieMaxC := by
  cases p with
  | xp2500 => rfl
  | xp2800 => rfl
  | xp3000 => rfl

end Sys2Proof.Machine

namespace Sys2Proof.Proofs

open Sys2Proof.Machine

/-- Settles O52: the tables, then what each product carries, its part number, and its pins. -/
theorem strapCodes : Obligations.StrapCodes := by
  refine ⟨fidRatio_of_ne, rfl, vidMillivolts_of_lt, rfl, rfl, rfl, rfl, rfl, fun p => ?_⟩
  exact ⟨fidOfRatio_ratioHalves p, rfl, rfl, Package.decodeOpn_render p, rfl, rfl, rfl, rfl,
    Electrical.operatingPoint_dieMaxC p, fun _ => rfl, p.strapPin_vid, p.strapPin_fsbSense 1, p.strapPin_fsbSense 0⟩

end Sys2Proof.Proofs
end

section
/-! PROOFS. The counts of the pin map (46_pin_map.md R382). The counts of single signals are read off the map, its length row by row; the
counts of what lies outside a list of signals follow, as what these leave over. Then the statement. -/

namespace Sys2Proof.Machine

/-! ### Counting by signal -/

/-- What stands at the positions, in the order of the map. -/
def pinSignals : List Signal := pinMap.map fun p => p.info.signal

theorem length_filter_pinMap (q : Signal → Bool) :
    (pinMap.filter fun p => q p.info.signal).length = pinSignals.countP q := by
  rw [pinSignals, List.countP_map, ← List.countP_eq_length_filter, Function.comp_def]

theorem length_pinsOf (g : Signal) : (pinsOf g).length = pinSignals.count g := by
  rw [pinsOf, List.length_map, length_filter_pinMap (· == g), List.count]

/-- Leaving out one signal more lowers the count by its own. -/
theorem countP_notMem_cons_add_count {g : Signal} {gs : List Signal} (hg : g ∉ gs) (l : List Signal) :
    l.countP (fun x => x ∉ g :: gs) + l.count g = l.countP fun x => x ∉ gs := by
  induction l with
  | nil => rfl
  | cons x l ih =>
    by_cases hx : x = g
    · subst hx
      rw [List.countP_cons_of_neg (by simp), List.count_cons_self, List.countP_cons_of_pos (by simpa using hg), ← ih,
        Nat.add_assoc]
    · have hmem : x ∉ g :: gs ↔ x ∉ gs := by simp [hx]
      rw [List.countP_cons, List.countP_cons, List.count_cons_of_ne hx, ← ih, Nat.add_right_comm]
      simp only [hmem]

theorem countP_notMem_add_sum_count (l : List Signal) {gs : List Signal} (hgs : gs.Nodup) :
    l.countP (fun x => x ∉ gs) + (gs.map l.count).sum = l.length := by
  induction gs with
  | nil => simp
  | cons g gs ih =>
    obtain ⟨hg, hgs⟩ := List.nodup_cons.mp hgs
    calc l.countP (fun x => x ∉ g :: gs) + ((g :: gs).map l.count).sum
        = (l.countP (fun x => x ∉ g :: gs) + l.count g) + (gs.map l.count).sum := by
          rw [List.map_cons, List.sum_cons, Nat.add_assoc]
      _ = l.countP (fun x => x ∉ gs) + (gs.map l.count).sum := by rw [countP_notMem_cons_add_count hg]
      _ = l.length := ih hgs

/-- Of the positions, those outside a list of signals are what the positions of these signals leave over. -/
theorem length_filter_notMem_add_sum_pinsOf {gs : List Signal} (hgs : gs.Nodup) :
    (pinMap.filter fun p => p.info.signal ∉ gs).length + (gs.map fun g => (pinsOf g).length).sum = pinMap.length := by
  have hlen : pinMap.length = pinSignals.length := (List.length_map _).symm
  simp only [length_pinsOf]
  rw [length_filter_pinMap (fun g => decide (g ∉ gs)), hlen]
  exact countP_notMem_add_sum_count pinSignals hgs

/-- The two orientation positions and the AMD pin are the ones without a pin (R386). -/
theorem Signal.not_unpinned (g : Signal) : (!g.unpinned) = decide (g ∉ [Signal.noPin, .amdPin]) := by
  cases g <;> simp [Signal.unpinned]

/-! ### The counts read off the map -/

/-- R380: rows A to H and AF to AN are full, and between them each row has its four outermost positions on each side. -/
theorem pinRow_lengths : GridRow.all.map (fun row => (pinRow row).length) =
    [19, 18, 19, 18, 19, 18, 19, 18] ++ List.replicate 21 8 ++ [18, 19, 18, 19, 18, 19, 18, 19] := by
  decide

theorem length_pinMap : pinMap.length = 464 := by
  simp [pinMap, List.length_flatMap, pinRow_lengths]

theorem length_pinsOf_vccCore : (pinsOf .vccCore).length = 101 := by decide
theorem length_pinsOf_vss : (pinsOf .vss).length = 101 := by decide
theorem length_pinsOf_nc : (pinsOf .nc).length = 75 := by decide
theorem length_pinsOf_key : (pinsOf .key).length = 16 := by decide
theorem pinsOf_noPin : pinsOf .noPin = [(.a, 1), (.an, 1)] := by decide
theorem pinsOf_amdPin : pinsOf .amdPin = [(.ah, 6)] := by decide

/-! ### The counts that follow -/

/-- The positions with a named signal or supply other than VCC_CORE and VSS. -/
theorem length_namedPositions :
    (pinMap.filter fun p => p.info.signal ∉ [.vccCore, .vss, .nc, .key, .noPin, .amdPin]).length = 168 := by
  have hrest := length_filter_notMem_add_sum_pinsOf (gs := [.vccCore, .vss, .nc, .key, .noPin, .amdPin]) (by decide)
  have hsum : (([.vccCore, .vss, .nc, .key, .noPin, .amdPin] : List Signal).map fun g => (pinsOf g).length).sum =
      101 + 101 + 75 + 16 + 2 + 1 := by
    simp [length_pinsOf_vccCore, length_pinsOf_vss, length_pinsOf_nc, length_pinsOf_key, pinsOf_noPin, pinsOf_amdPin]
  rw [hsum, length_pinMap] at hrest
  exact Nat.add_right_cancel hrest

/-- The positions with a pin according to the descriptions. -/
theorem length_positionsWithPin : (pinMap.filter fun p => !p.info.signal.unpinned).length = 461 := by
  have hrest := length_filter_notMem_add_sum_pinsOf (gs := [.noPin, .amdPin]) (by decide)
  have hsum : (([.noPin, .amdPin] : List Signal).map fun g => (pinsOf g).length).sum = 2 + 1 := by
    simp [pinsOf_noPin, pinsOf_amdPin]
  rw [hsum, length_pinMap] at hrest
  simp only [Signal.not_unpinned]
  exact Nat.add_right_cancel hrest

end Sys2Proof.Machine

namespace Sys2Proof.Proofs

open Sys2Proof.Machine

/-- Settles O53: the length of the map and the counts of single signals, then what they leave over. -/
theorem pinMapCounts : Obligations.PinMapCounts :=
  ⟨length_pinMap, length_pinsOf_vccCore, length_pinsOf_vss, length_pinsOf_nc, length_pinsOf_key, pinsOf_noPin, pinsOf_amdPin,
    length_namedPositions, length_positionsWithPin, rfl⟩

end Sys2Proof.Proofs
end

section
/-! PROOFS. Events in Working, what is latched and delivered later, FERR, and RESET# (60_exceptions.md). Then the statements of this
family. -/

namespace Sys2Proof.Machine

/-! ### Events in Working -/

theorem vccInTolerance_mark (k : Kind) (s : State) : (k.mark s).vccInTolerance = s.vccInTolerance :=
  (steady_mark k s).vccInTolerance_eq

theorem steady_deliver (k : Kind) (m : Opaque) (s : State) : Steady s (deliver k m s) := {}

/-- An event in Working is delivered, after its pin is noted (60_exceptions.md R403). -/
theorem step_event_working {s : State} {is : List Input} {k : Kind} {m : Opaque} (hi : s.inputs = k.input m :: is)
    (hr : s.running = true) (hp : s.pm = .working) (hv : s.vccInTolerance = true) (hd : s.deliverable k = true) :
    step s = .next (deliver k m (k.mark { s with inputs := is })) := by
  let u := k.mark { s with inputs := is }
  have hdu : u.deliverable k = true := (deliverable_congr (by simp [u]) k).trans hd
  have hdeliver : onEvent k (if k = .apic then m else 0) u = deliver k m u := by
    rw [onEvent_working (by simpa [u] using hr) (by simpa [u] using hp) hdu, deliver_message]
  have hvu : (deliver k m u).vccInTolerance = true :=
    (steady_deliver k m u).vccInTolerance_eq.trans ((vccInTolerance_mark k _).trans hv)
  rw [step_event hi, hdeliver]
  exact comeTo_ok (vccCoreOk_of_tolerance hvu)

/-- A masked INTR is no event, whatever the machine is doing (92 D4). -/
theorem onEvent_masked {s : State} (m : Opaque) (h : s.x86.intrMasked = true) : onEvent .intr m s = s := by
  simp [onEvent, h]

/-! ### The first fetch after INIT# -/

/-- Untranslated, a fetch is from the fetch address and what follows it. -/
theorem fetchAddr_untranslated {s : State} (h : s.x86.translating = false) (k : Nat) :
    fetchAddr s k = some (phys s.pins.a20m (s.x86.fetch + BitVec.ofNat 64 k)) := by
  simp [fetchAddr, fetchTranslated, h]

/-- Bit 20 of the start address is 1, and A20M# clears it (20_memory.md R91, 92 D7). -/
theorem phys_startAddress (a20m : Bool) : phys a20m startAddress = if a20m then 0xFFEFFFF0 else 0xFFFFFFF0 := by
  cases a20m <;> rfl

/-! ### What is latched, turn by turn -/

/-- A latched event's turn: only a masked INTR is not delivered, and pends (40_power_states.md R142). -/
theorem deliverIf_turn (l : Latched) (s : State) (k : Kind) :
    deliverIf l s k =
      if l.has k then if k = .intr ∧ s.x86.intrMasked = true then { s with intrPending := true } else deliver k l.apicMsg s
      else s := by
  unfold deliverIf
  congr 1
  by_cases h : k = .intr ∧ s.x86.intrMasked = true
  · obtain ⟨rfl, hm⟩ := h
    simp [takeEvent_pends _ hm, hm]
  · rw [if_neg h]
    exact takeEvent_taken _ (by simpa [State.deliverable, imp_iff_not_or] using h)

/-- Where the processor's own step does not recognise STPCLK#, a connected Working state comes to an instruction boundary. -/
theorem step_atBoundary {s : State} {is : List Input} (hr : s.running = true) (hp : s.pm = .working) (hc : s.conn = .connected)
    (hg : s.goesOn is) : step s = atBoundary { s with inputs := is } := by
  rcases hg with hq | ⟨hk, hq | ⟨hq, rfl⟩⟩
  · rw [step_cons hq]
    exact ownStep_boundary (s := { s with inputs := is }) hr hp hc (.inl rfl)
  · rw [step_cons hq]
    exact ownStep_boundary (s := { s with inputs := is }) hr hp hc (.inr hk)
  · rw [step_nil hq, ← hq]
    simp [ownStepFree, State.stpclkPending, hk, ownWork_working hr hp hc]

/-! ### FERR -/

/-- FERR is active High, so its wire is at its level (45_signals.md R325). -/
theorem wire_ferr (s : State) : s.wire? .ferr = some s.ferr := by
  simp [State.wire?, State.asserted?, Signal.activeLow, Bus.wireHigh, State.ferr]

/-! ### RESET# -/

/-- RESET# acts at once, whatever state it meets (70_reset_and_hazards.md R461). -/
theorem step_resetAssert {s : State} {is : List Input} (hi : s.inputs = .resetAssert :: is) (h : s.pins.reset = false) :
    step s = .next (resetEffect { s with inputs := is }) := by
  rw [step_cons hi]
  simp [onInput, onResetAssert, h]

end Sys2Proof.Machine

namespace Sys2Proof.Proofs

open Sys2Proof.Machine

/-- Settles O17: in Working the event is delivered, and delivery is by kind. -/
theorem eventInWorkingIsDelivered : Obligations.EventInWorkingIsDelivered := by
  unfold Obligations.EventInWorkingIsDelivered
  intro s is k m hi hr hp hv u
  have hstep : s.deliverable k = true → step s = .next (deliver k m u) := step_event_working hi hr hp hv
  refine ⟨?smi, ?nmi, ?apic, ?intr⟩
  case smi => rintro rfl; exact ⟨_, rfl, hstep rfl⟩
  case nmi => rintro rfl; exact hstep rfl
  case apic => rintro rfl; exact hstep rfl
  case intr => rintro rfl hmask; exact hstep (by simp [hmask])

/-- Settles O18: delivering INIT# changes the x86 state only, and its first fetch is untranslated. -/
theorem initInWorking : Obligations.InitInWorking := by
  unfold Obligations.InitInWorking
  intro s is hi hr hp hv
  let t := deliverInit (markPin .init true { s with inputs := is })
  have hstep : step s = .next t := step_event_working (k := .init) (m := 0) hi hr hp hv rfl
  have hfetch : fetchAddr t 0 = some (if s.pins.a20m then 0xFFEFFFF0 else 0xFFFFFFF0) :=
    (fetchAddr_untranslated rfl 0).trans (congrArg some (phys_startAddress s.pins.a20m))
  exact ⟨t, hstep, rfl, rfl, rfl, rfl, rfl, hfetch⟩

/-- Settles O19: only the pin is noted. -/
theorem maskedIntrIsNoEvent : Obligations.MaskedIntrIsNoEvent := by
  unfold Obligations.MaskedIntrIsNoEvent
  intro s is hi hm hv
  rw [step_event (k := .intr) (m := 0) hi, onEvent_masked _ (by simpa using hm)]
  exact comeTo_ok hv

/-- Settles O23: the turns are those of `deliverIf`, the four before INTR's lead to `State.atIntr`, and a pending INTR that is masked
no longer is taken at the boundary. -/
theorem latchedEventsDeliveredInOrder : Obligations.LatchedEventsDeliveredInOrder := by
  unfold Obligations.LatchedEventsDeliveredInOrder
  intro s turn others
  have hturn : ∀ k u, turn k u = deliverIf s.latched u k := fun k u => (deliverIf_turn s.latched u k).symm
  have hothers : others = s.atIntr := by simp only [others, hturn, atIntr_unfold]
  rw [hothers, hturn]
  refine ⟨deliverLatched_atIntr s, ?_, deliverLatched_intrPending s, deliverLatched_pm s, deliverLatched_conn s,
    deliverLatched_clkCtl s, fun is hr hp hc hpend hmask hg => ?_⟩
  · simp [State.latchedAck]
  · rw [step_atBoundary hr hp hc hg]
    exact atBoundary_due (s := { s with inputs := is }) hpend hmask

/-- Settles O25: FERR is `X86_ISA`'s report, and reads nothing else. -/
theorem ferrFollowsNumericPending : Obligations.FerrFollowsNumericPending :=
  fun s _ _ _ => ⟨rfl, rfl, wire_ferr s, rfl⟩

/-- Settles O42: the state is that of `resetEffect`, in which every clause is read off. -/
theorem resetActsInEveryState : Obligations.ResetActsInEveryState := by
  unfold Obligations.ResetActsInEveryState
  intro s is hi hreset
  exact ⟨_, step_resetAssert hi hreset, rfl, rfl, rfl, rfl, rfl, rfl, rfl, rfl, rfl, rfl, rfl, rfl, rfl, rfl, rfl⟩

end Sys2Proof.Proofs
end

section
/-! PROOFS. Power-up, clocks, RESET#, NB_RESET# and the cold start (70_reset_and_hazards.md), and the capture rule (R476). Then the
statements of this family. -/

namespace Sys2Proof.Machine

/-! ### What an accepted input leads to -/

/-- Of an input that is accepted exactly under a condition and then leads to one state: the condition, and the state. -/
theorem accepted_iff {o : Result} {c : Prop} {u : State} (h : ∀ t, o = .next t ↔ c ∧ u = t) :
    ((∃ t, o = .next t) ↔ c) ∧ ∀ t, o = .next t → t = u :=
  ⟨⟨fun ⟨t, ht⟩ => ((h t).1 ht).1, fun hc => ⟨u, (h u).2 ⟨hc, rfl⟩⟩⟩, fun t ht => ((h t).1 ht).2.symm⟩

/-! ### While not running -/

/-- While not running the processor's own step does nothing, whatever it would recognise (41_connect_protocol.md R194). -/
theorem ownStep_off {s : State} (h : s.running = false) (r : Bool) : ownStep r s = .next s := by
  simp [ownStep, State.stpclkPending, ownWork, h]

theorem ownStepFree_off {s : State} (h : s.running = false) : ownStepFree s = .next s := by
  simp [ownStepFree, State.stpclkPending, ownWork, h]

/-- While not running Table 6 asks nothing of the passing of time (43_electrical_thermal.md R240). -/
theorem step_elapse_off {s : State} {is : List Input} {d : Nat} (hi : s.inputs = .elapse d :: is) (h : s.running = false) :
    step s = .next (passTime d { s with inputs := is }) :=
  (step_cons hi).trans (comeTo_ok (vccCoreOk_of_off (s := passTime d { s with inputs := is }) h))

/-! ### PWROK -/

/-- What the board has to provide before PWROK (70_reset_and_hazards.md R452 to R454, R471; 92 D20). -/
def State.ReadyForPwrok (s : State) : Prop :=
  s.pins.reset = true ∧ s.rst = .inReset ∧
    (∃ r, s.times.resetAt = some r ∧ r + 10000 ≤ s.times.now) ∧
    s.supply = .ringOsc ∧ (∃ v, s.times.v33At = some v ∧ v + 3000000000 ≤ s.times.now) ∧
    (∃ v, s.times.vccaAt = some v ∧ v + 5000000 ≤ s.times.now) ∧ 1600 ≤ s.env.vccCoreMv ∧ s.env.vccCoreMv ≤ 1700 ∧
    s.pins.sysclk = true ∧ s.pins.picclk = true

/-- The state in which PWROK is asserted: the PLL clocks the core. -/
def pwrokAsserted (s : State) : State :=
  { s with supply := .pll, pins := { s.pins with pwrok := true }, times := { s.times with pwrokAt := some s.times.now } }

theorem resetBeforePwrok_iff {s : State} : s.resetBeforePwrok = true ↔
    s.pins.reset = true ∧ s.rst = .inReset ∧ ∃ r, s.times.resetAt = some r ∧ r + 10000 ≤ s.times.now := by
  simp [State.resetBeforePwrok, since_iff, Timing.resetBeforePwrok, and_assoc]

theorem suppliesGood_iff {s : State} : s.suppliesGood = true ↔
    s.supply = .ringOsc ∧ (∃ v, s.times.v33At = some v ∧ v + 3000000000 ≤ s.times.now) ∧
      (∃ v, s.times.vccaAt = some v ∧ v + 5000000 ≤ s.times.now) ∧ 1600 ≤ s.env.vccCoreMv ∧ s.env.vccCoreMv ≤ 1700 := by
  simp [State.suppliesGood, since_iff, Timing.v33ToPwrok, Timing.vccaToPwrok, Electrical.vccCoreDc, Limit.admits_between,
    and_assoc]

theorem onPwrokAssert_next {s t : State} (h : s.pins.pwrok = false) :
    onPwrokAssert s = .next t ↔ s.ReadyForPwrok ∧ pwrokAsserted s = t := by
  simp [onPwrokAssert, require_next, h, resetBeforePwrok_iff, suppliesGood_iff, State.ReadyForPwrok, pwrokAsserted, and_assoc]

theorem step_pwrokAssert {s t : State} {is : List Input} (hi : s.inputs = .pwrokAssert :: is) (h : s.pins.pwrok = false) :
    step s = .next t ↔ s.ReadyForPwrok ∧ pwrokAsserted { s with inputs := is } = t := by
  rw [step_cons hi]
  exact onPwrokAssert_next (s := { s with inputs := is }) h

/-! ### RESET# and NB_RESET# -/

/-- What has to have happened before RESET# is released (70_reset_and_hazards.md R455, R457, R462; 92 D20). -/
def State.ReadyForRelease (s : State) : Prop :=
  s.supply = .pll ∧ (∃ p, s.times.pwrokAt = some p ∧ p + 1000000000 ≤ s.times.now) ∧
    (∃ r, s.times.resetAt = some r ∧ r + 1000000000 ≤ s.times.now) ∧ s.env.nbResetSeen = true ∧ s.env.connectSampled = true

/-- The state in which RESET# is released: the SIP phase begins. -/
def resetReleased (s : State) : State := { s with rst := .sip, pins := { s.pins with reset := false } }

theorem onResetDeassert_next {s t : State} (h : s.pins.reset = true) :
    onResetDeassert s = .next t ↔ s.ReadyForRelease ∧ resetReleased s = t := by
  simp [onResetDeassert, require_next, h, since_iff, Timing.pwrokToRelease, Timing.resetMin, State.ReadyForRelease, resetReleased,
    and_assoc]

theorem step_resetDeassert {s t : State} {is : List Input} (hi : s.inputs = .resetDeassert :: is) (h : s.pins.reset = true) :
    step s = .next t ↔ s.ReadyForRelease ∧ resetReleased { s with inputs := is } = t := by
  rw [step_cons hi]
  exact onResetDeassert_next (s := { s with inputs := is }) h

/-- NB_RESET# asserted drives CONNECT asserted, where it is sampled (R457). -/
theorem onNbReset_true (s : State) :
    onNbReset true s = if s.rst = .inReset then .next { s with
        pins := { s.pins with connect := true }
        env := { s.env with nbReset := true, nbResetSeen := true, connectSampled := true } }
      else .refused .nbResetLate := by
  simp [onNbReset, require]

/-- CONNECT does not fall while NB_RESET# is asserted (R457). -/
theorem onConnectDeassert_nbReset {s : State} (hc : s.pins.connect = true) (hn : s.env.nbReset = true) :
    onConnectDeassert s = .refused .connectFellInNbReset := by
  simp [onConnectDeassert, hc, hn]

/-! ### The SIP and FID[3:0] -/

/-- The state in which a SIP leaves the machine (R465): running, Working and Connected. -/
def sipLoaded (cfg : SipConfig) (s : State) : State :=
  { s with
    sip := cfg, rst := .run, pm := .working, conn := .connected
    pins := { s.pins with procrdy := true, connect := true, clkfwdrst := false } }

/-- A SIP is taken in its phase if it is push-pull and matches FID[3:0]. -/
theorem step_sipDone {s : State} {is : List Input} {cfg : SipConfig} (hi : s.inputs = .sipDone cfg :: is) (hs : s.supply = .pll)
    (hr : s.rst = .sip) (hpp : cfg.sysPushPull = true) (hf : cfg.forFid = s.part.fid) (hv : s.vccInTolerance = true) :
    step s = .next (sipLoaded cfg { s with inputs := is }) := by
  have hok : (sipLoaded cfg { s with inputs := is }).vccCoreOk = true := vccCoreOk_of_tolerance hv
  rw [step_cons hi]
  simp only [onInput, onSipDone, require_next, Bool.and_eq_true, beq_iff_eq]
  exact ⟨⟨hs, hr⟩, hpp, hf, comeTo_ok hok⟩

theorem fidValid_iff {s : State} : s.fidValid = true ↔
    s.supply = .pll ∧ s.rst ≠ .run ∧ (∃ p, s.times.pwrokAt = some p ∧ p + 100000 ≤ s.times.now) ∧
      ∃ r, s.times.resetAt = some r ∧ r + 100000 ≤ s.times.now := by
  simp [State.fidValid, since_iff, Timing.tValid, and_assoc]

/-! ### The clocks -/

theorem onSysclk_stopped {s : State} (hs : s.supply ≠ .off) (hc : s.pins.sysclk = true) :
    onSysclk false s = .refused .clockStopped := by
  have hoff : (s.supply == .off) = false := beq_false_of_ne hs
  simp [onSysclk, hoff, hc]

theorem onPicclk_stopped {s : State} (hs : s.supply ≠ .off) (hc : s.pins.picclk = true) :
    onPicclk false s = .refused .clockStopped := by
  have hoff : (s.supply == .off) = false := beq_false_of_ne hs
  simp [onPicclk, hoff, hc]

/-- A change of the SYSCLK period that Table 9 allows (43_electrical_thermal.md R252), where `turn` says that the period turns from
growing to shrinking or back (log entry 75). -/
def Times.PeriodMayBecome (t : Times) (turn : Prop) (ps : Nat) : Prop :=
  6000 ≤ ps ∧ ps ≤ 20000 ∧ ps ≤ t.period + 300 ∧ t.period ≤ ps + 300 ∧ t.nominal ≤ ps ∧ 99 * ps ≤ 100 * t.nominal ∧
    (turn → ∀ c, t.turnedAt = some c → c + 5000000 ≤ t.now)

theorem periodAllowed_iff {ps : Nat} : Electrical.periodAllowed ps = true ↔ 6000 ≤ ps ∧ ps ≤ 20000 := by
  rw [Electrical.periodAllowed, Bool.and_eq_true, decide_eq_true_eq, decide_eq_true_eq]
  rfl

theorem periodStable_iff {old new : Nat} : Electrical.periodStable old new = true ↔ new ≤ old + 300 ∧ old ≤ new + 300 := by
  rw [Electrical.periodStable, Electrical.sysclkStability, Limit.admits_between]
  omega

theorem spreadAllowed_iff {nominal ps : Nat} :
    Electrical.spreadAllowed nominal ps = true ↔ nominal ≤ ps ∧ 99 * ps ≤ 100 * nominal := by
  simp [Electrical.spreadAllowed]

theorem turns_iff {t : Times} {ps : Nat} :
    Electrical.turns t ps = true ↔ if t.lengthening then ps < t.period else t.period < ps := by
  cases h : t.lengthening <;> simp [Electrical.turns, h]

theorem spreadRateAllowed_iff {t : Times} {ps : Nat} : Electrical.spreadRateAllowed t ps = true ↔
    (Electrical.turns t ps = true → ∀ c, t.turnedAt = some c → c + 5000000 ≤ t.now) := by
  cases h : Electrical.turns t ps <;> simp [Electrical.spreadRateAllowed, h, clearOf_iff, Timing.spreadHalfCycle]

/-- While SYSCLK runs to a powered processor its period changes exactly within Table 9. -/
theorem onSysclkPeriod_next {s t : State} {ps : Nat} (hs : s.supply ≠ .off) (hc : s.pins.sysclk = true) :
    onSysclkPeriod ps s = .next t ↔
      s.times.PeriodMayBecome (Electrical.turns s.times ps = true) ps ∧ { s with times := varyPeriod ps s.times } = t := by
  simp [onSysclkPeriod, require_next, hs, hc, periodAllowed_iff, periodStable_iff, spreadAllowed_iff, spreadRateAllowed_iff,
    Times.PeriodMayBecome, and_assoc]

theorem varyPeriod_eq (ps : Nat) (t : Times) : varyPeriod ps t = { t with
    period := ps
    lengthening := if Electrical.turns t ps then !t.lengthening else t.lengthening
    turnedAt := if Electrical.turns t ps then some t.now else t.turnedAt } := by
  cases h : Electrical.turns t ps <;> simp [varyPeriod, h]

/-! ### The cold start (R460) -/

/-- VCC_CORE is applied to an unpowered machine (10_state.md R36). -/
theorem step_vccCoreOn {s : State} {is : List Input} {mv : Int} (hi : s.inputs = .vccCoreOn mv :: is) (hoff : s.supply = .off)
    (hmv : 0 < mv) (hpwrok : s.pins.pwrok = false) (hpicclk : s.pins.picclk = true)
    (habs : Electrical.absVccCore.admits mv = true) (hdie : s.env.dieC ≤ 85) :
    step s = .next { s with inputs := is, supply := .ringOsc, env := { s.env with vccCoreMv := mv } } :=
  (step_cons hi).trans ((onVccCoreOn_next (s := { s with inputs := is })).2 ⟨⟨hoff, hmv, hpwrok, hpicclk, habs, hdie⟩, rfl⟩)

/-- The state after RESET#, NB_RESET#, the supplies and SYSCLK have come, in this order. -/
def supplied (mv : Int) (s : State) : State :=
  let r := resetEffect s
  { r with
    supply := .ringOsc
    pins := { r.pins with connect := true, sysclk := true }
    env := { r.env with nbReset := true, nbResetSeen := true, connectSampled := true, vccCoreMv := mv }
    times := { r.times with v33At := some s.times.now, vccaAt := some s.times.now } }

/-- RESET#, NB_RESET#, the supplies and SYSCLK come to an unpowered machine. -/
theorem runSteps_supplied {s : State} {is : List Input} {mv : Int}
    (hi : s.inputs =
      .resetAssert :: .nbReset true :: .supply33Good :: .vccaGood :: .vccCoreOn mv :: .sysclk true :: is)
    (hreset : s.pins.reset = false) (hoff : s.supply = .off) (hpwrok : s.pins.pwrok = false) (hpicclk : s.pins.picclk = true)
    (hmv : 0 < mv) (habs : Electrical.absVccCore.admits mv = true) (hdie : s.env.dieC ≤ 85) :
    runSteps 6 s = .next (supplied mv { s with inputs := is }) := by
  let q := Input.vccCoreOn mv :: .sysclk true :: is
  let u4 : State :=
    { supplied mv { s with inputs := q } with
      supply := s.supply
      pins := { (resetEffect s).pins with connect := true }
      env := { (resetEffect s).env with nbReset := true, nbResetSeen := true, connectSampled := true } }
  have h1 := step_resetAssert hi hreset
  have h4 : runSteps 3 (resetEffect { s with inputs := .nbReset true :: .supply33Good :: .vccaGood :: q }) = .next u4 := rfl
  have h5 := step_vccCoreOn (s := u4) rfl hoff hmv hpwrok hpicclk habs hdie
  rw [runSteps_next h1, runSteps_add (a := 3) (b := 2) h4, runSteps_next h5]
  rfl

/-- PWROK, time, the release of NB_RESET# and of RESET#, and the SIP bring a supplied machine to the run phase. -/
theorem runSteps_started {s : State} {is : List Input} {d : Nat} {cfg : SipConfig}
    (hi : s.inputs = .pwrokAssert :: .elapse d :: .nbReset false :: .resetDeassert :: .sipDone cfg :: is)
    (hpwrok : s.pins.pwrok = false) (hready : s.ReadyForPwrok) (hd : 1000000000 ≤ d) (hnb : s.env.nbResetSeen = true)
    (hconn : s.env.connectSampled = true) (hpp : cfg.sysPushPull = true) (hf : cfg.forFid = s.part.fid) :
    runSteps 5 s = .next (sipLoaded cfg (resetReleased
      { passTime d (pwrokAsserted { s with inputs := is }) with env := { s.env with nbReset := false } })) := by
  let u1 : State := pwrokAsserted { s with inputs := .elapse d :: .nbReset false :: .resetDeassert :: .sipDone cfg :: is }
  let u3 : State := { passTime d u1 with inputs := .resetDeassert :: .sipDone cfg :: is, env := { s.env with nbReset := false } }
  let u4 : State := resetReleased { u3 with inputs := .sipDone cfg :: is }
  have h1 : step s = .next u1 := (step_pwrokAssert hi hpwrok).2 ⟨hready, rfl⟩
  obtain ⟨hreset, hrst, ⟨r, hr, hrd⟩, -, -, -, hlo, hhi, -, -⟩ := hready
  have hoff : u1.running = false := by simp [State.running, u1, pwrokAsserted, hrst]
  have h2 : step u1 = .next { passTime d u1 with inputs := .nbReset false :: .resetDeassert :: .sipDone cfg :: is } :=
    step_elapse_off rfl hoff
  have hrelease : u3.ReadyForRelease :=
    ⟨rfl, ⟨s.times.now, rfl, Nat.add_le_add_left hd _⟩, ⟨r, hr, show r + 1000000000 ≤ s.times.now + d by omega⟩, hnb, hconn⟩
  have h4 : step u3 = .next u4 := (step_resetDeassert (s := u3) rfl hreset).2 ⟨hrelease, rfl⟩
  have h5 : step u4 = .next (sipLoaded cfg { u4 with inputs := is }) :=
    step_sipDone rfl rfl rfl hpp hf (vccInTolerance_of_dc (Limit.admits_between.2 ⟨hlo, hhi⟩))
  rw [runSteps_next h1, runSteps_next h2, runSteps_next (t := u3) rfl, runSteps_next h4, runSteps_one, h5]
  rfl

/-! ### The capture rule (R476) -/

theorem captureSure_iff {s : State} {p : EventPin} {d : Nat} : s.captureSure p d = true ↔
    20000 ≤ d ∧ ∀ l, s.lastAssert p = some l → l + Timing.trpt s ≤ s.times.now := by
  rw [State.captureSure, Bool.and_eq_true, decide_eq_true_eq, clearOf_iff]
  rfl

/-- At full speed TRPT is 40 ns. -/
theorem trpt_of_ne {s : State} (h : s.conn ≠ .disconnected) : Timing.trpt s = 40000 := by
  unfold Timing.trpt
  split
  · contradiction
  · rfl

/-- And never less. -/
theorem le_trpt (s : State) : 40000 ≤ Timing.trpt s := by
  unfold Timing.trpt
  split <;> simp [Timing.tRpt]

/-- Shorter than TBIT, or sooner than TRPT at full speed after the last assertion, capture is not sure, in whichever connect state. -/
theorem not_captureSure {s : State} {p : EventPin} {d : Nat}
    (h : d < 20000 ∨ ∃ l, s.lastAssert p = some l ∧ s.times.now < l + 40000) : s.captureSure p d = false := by
  refine Bool.eq_false_iff.2 fun hsure => ?_
  obtain ⟨hd, hclear⟩ := captureSure_iff.1 hsure
  rcases h with h | ⟨l, hl, hnow⟩
  · omega
  · have hlast := hclear l hl
    have htrpt := le_trpt s
    omega

theorem onPulse_sure {s : State} {p : EventPin} {d : Nat} (hl : s.level p = false) (h : s.captureSure p d = true) :
    onPulse p d s = seenPulse p d s := by
  simp [onPulse, hl, h]

/-- What is not sure to be captured is captured or lost, by a free value (93 U4). -/
theorem onPulse_unsure {s : State} {p : EventPin} {d : Nat} (hl : s.level p = false) (h : s.captureSure p d = false) :
    onPulse p d s = seenPulse p d { s with free := s.free + 1 } ∨ onPulse p d s = lostPulse p d { s with free := s.free + 1 } := by
  cases hc : Config.capturesAnyway s.free <;> simp [onPulse, hl, h, hc]

end Sys2Proof.Machine

namespace Sys2Proof.Proofs

open Sys2Proof.Machine

/-- Settles O43: neither the own step nor an event does anything while not running. -/
theorem nothingRunsOutsideRun : Obligations.NothingRunsOutsideRun := by
  intro s is hr
  refine ⟨fun r hi => (step_cons hi).trans (ownStep_off (s := { s with inputs := is }) hr r),
    fun hi => (step_nil hi).trans (ownStepFree_off hr), fun k m hi => ?_⟩
  have hoff : (k.mark { s with inputs := is }).running = false := by simpa using hr
  rw [step_event hi, onEvent_off hoff, comeTo_ok (vccCoreOk_of_off hoff)]

/-- Settles O44: the conditions of PWROK and its state are those of `step_pwrokAssert`. -/
theorem pwrokRequirements : Obligations.PwrokRequirements := by
  intro s is hi hp
  exact accepted_iff fun t => step_pwrokAssert hi hp

/-- Settles O45: the release by `step_resetDeassert`, NB_RESET# and CONNECT by their handlers. -/
theorem resetReleaseRequirements : Obligations.ResetReleaseRequirements := by
  intro s is
  exact ⟨fun hi hp => accepted_iff fun t => step_resetDeassert hi hp,
    fun hi => (step_cons hi).trans (onNbReset_true _),
    fun hi hc hn => (step_cons hi).trans (onConnectDeassert_nbReset (s := { s with inputs := is }) hc hn)⟩

/-- Settles O47: the supplies come, their time passes, and PWROK, RESET#'s release and the SIP follow. -/
theorem coldStartReachesWorking : Obligations.ColdStartReachesWorking := by
  intro part mv d1 d2 hlo hhi hd1 hd2
  let q : List Input := [.pwrokAssert, .elapse d2, .nbReset false, .resetDeassert, .sipDone ⟨true, part.fid⟩]
  let s : State := { State.unpowered with
    part := part
    inputs := .resetAssert :: .nbReset true :: .supply33Good :: .vccaGood :: .vccCoreOn mv :: .sysclk true :: .elapse d1 :: q }
  let u : State := supplied mv { s with inputs := .elapse d1 :: q }
  let v : State := passTime d1 { u with inputs := q }
  have h6 : runSteps 6 s = .next u :=
    runSteps_supplied rfl rfl rfl rfl rfl (by omega) (Limit.admits_between.2 ⟨by omega, by omega⟩)
      (show (25 : Int) ≤ 85 by decide)
  have h7 : step u = .next v := step_elapse_off rfl rfl
  have hnow : v.times.now = d1 := Nat.zero_add d1
  have hready : v.ReadyForPwrok :=
    ⟨rfl, rfl, ⟨0, rfl, by omega⟩, rfl, ⟨0, rfl, by omega⟩, ⟨0, rfl, by omega⟩, hlo, hhi, rfl, rfl⟩
  have h12 : runSteps 5 v = .next _ := runSteps_started (is := []) rfl rfl hready hd2 rfl rfl rfl rfl
  refine ⟨_, (runSteps_add (a := 6) (b := 6) h6).trans ((runSteps_next h7).trans h12), rfl, rfl, rfl, rfl, rfl, ?_⟩
  exact (fetchAddr_untranslated rfl 0).trans (congrArg some (phys_startAddress false))

/-- Settles O48: FID[3:0] is valid by then, and the chipset reads the part's. -/
theorem fidValidAfterTvalid : Obligations.FidValidAfterTvalid := by
  intro s is p r hi hs hr hp hres hpnow hrnow
  have hvalid : State.fidValid { s with inputs := is } = true := fidValid_iff.2 ⟨hs, hr, ⟨p, hp, hpnow⟩, ⟨r, hres, hrnow⟩⟩
  rw [step_cons hi]
  exact if_pos hvalid

/-- Settles O49: the stops are refused, and the period follows `onSysclkPeriod_next`. -/
theorem clocksMustNotStop : Obligations.ClocksMustNotStop := by
  intro s is hs
  refine ⟨fun hi hc => (step_cons hi).trans (onSysclk_stopped (s := { s with inputs := is }) hs hc), fun hi hc =>
    (step_cons hi).trans (onPicclk_stopped (s := { s with inputs := is }) hs hc), fun ps hi hc => ?period⟩
  rw [step_cons hi]
  simp only [← turns_iff]
  rw [← varyPeriod_eq]
  exact accepted_iff fun t => onSysclkPeriod_next (s := { s with inputs := is }) hs hc

/-- Settles O50: an assertion is sure to be captured, or is captured or lost. -/
theorem captureRule : Obligations.CaptureRule := by
  intro s is p d hi hl u seen perhaps
  have hlevel : u.level p = false := hl
  have hstep : step s = onPulse p d u := step_cons hi
  have hsure : u.captureSure p d = true → step s = seen u := fun h => hstep.trans (onPulse_sure hlevel h)
  have hunsure : u.captureSure p d = false → perhaps := fun h =>
    (onPulse_unsure hlevel h).imp hstep.trans hstep.trans
  refine ⟨fun hd hc hlast => hsure (captureSure_iff.2 ⟨hd, (trpt_of_ne (s := u) hc).symm ▸ hlast⟩),
    fun h => hunsure (not_captureSure h), fun _ => ?_⟩
  cases h : u.captureSure p d
  · exact .inr (hunsure h)
  · exact .inl (hsure h)

end Sys2Proof.Proofs
end

section
/-! PROOFS. The fetch address after each of the four instructions (95_test_vectors.md P1, P3; log entry 12): how many bytes each
takes, that its own effect leaves the fetch address `advance` gives, and from both the statement of this family. -/

namespace Sys2Proof.Machine

/-! ### What the instructions' own effects leave of the fetch address -/

theorem length_hlt : Instr.hlt.length = 1 := rfl

theorem length_eq_two_of_ne_hlt {i : Instr} (h : i ≠ .hlt) : i.length = 2 := by
  cases i with
  | hlt => exact absurd rfl h
  | cpuid | rdmsr | wrmsr => rfl

@[simp] theorem setCpuidResult_fetch (r : CpuidResult) (x : X86) : (setCpuidResult r x).fetch = x.fetch := rfl

@[simp] theorem setMsrResult_fetch (v : Quad) (x : X86) : (setMsrResult v x).fetch = x.fetch := rfl

theorem advance_fetch (i : Instr) (s : State) :
    (advance i s).x86.fetch = s.x86.fetch + BitVec.ofNat 64 i.length := rfl

theorem advance_hlt_fetch (s : State) : (advance .hlt s).x86.fetch = s.x86.fetch + 1 := by
  rw [advance_fetch, length_hlt]
  rfl

theorem advance_fetch_of_ne_hlt {i : Instr} (h : i ≠ .hlt) (s : State) :
    (advance i s).x86.fetch = s.x86.fetch + 2 := by
  rw [advance_fetch, length_eq_two_of_ne_hlt h]
  rfl

/-- HLT where Working and the mode allow it (R133, R210). -/
theorem exec_hlt_allowed {s : State} (hp : s.pm = .working) (hx : s.x86.privileged = true) :
    exec .hlt s = .next (enterHalt (advance .hlt s)) := by
  simp [exec, execHlt, hp, hx]

end Sys2Proof.Machine

namespace Sys2Proof.Proofs

open Sys2Proof.Machine

/-- Settles O8: each own effect starts from `advance`, and nothing in it writes the fetch address again. -/
theorem instructionsAdvanceFetch : Obligations.InstructionsAdvanceFetch := by
  intro s
  refine ⟨fun hp hx => ?hlt, ?cpuid, fun hx ha => ⟨?rdmsr, fun hw => ?wrmsr⟩⟩
  case hlt => exact ⟨_, exec_hlt_allowed hp hx, advance_hlt_fetch s⟩
  case cpuid => exact ⟨_, rfl, (setCpuidResult_fetch _ _).trans (advance_fetch_of_ne_hlt (i := .cpuid) nofun s)⟩
  case rdmsr =>
    exact ⟨_, exec_rdmsr_clkCtl hx ha, (setMsrResult_fetch _ _).trans (advance_fetch_of_ne_hlt (i := .rdmsr) nofun s)⟩
  case wrmsr =>
    have hnext : exec .wrmsr s = .next { advance .wrmsr s with clkCtl := msrValue s.x86 } := by
      rw [exec_wrmsr_clkCtl hx ha, hw, require_true]
    exact ⟨_, hnext, advance_fetch_of_ne_hlt (i := .wrmsr) nofun s⟩

end Sys2Proof.Proofs
end
